-- ==== Sys2Proof/Word.lean ====
section
/-!
DEFINITION. The widths the spec names: a byte is 8 bits, a word 16 bits, a doubleword (a far pointer) 32 bits (R9).
-/

namespace Sys2Proof

/-- A byte: 8 bits (R9). -/
abbrev Byte := BitVec 8

/-- A word: 16 bits (R9), the width of every general and segment register (R31, R39) and of every offset (R73). -/
abbrev Word := BitVec 16

/-- A doubleword: 32 bits (R9), the far pointer of LES and LDS. -/
abbrev DWord := BitVec 32

end Sys2Proof
end

