-- ==== Sys2Proof/Config.lean ====
section
/-!
DEFINITION. What is fixed for this hardware (R7). The spec leaves no result, flag or register of any instruction
open (U1 to U14 of `93_implementation_defined.md`), so there is no free value here. The parameters that the spec
leaves to the host (the services, the run bounds, the image, the sink: D32 to D35) are State or arguments of host calls.
-/

namespace Sys2Proof.Config

/-- `MEM_SIZE` = 2^20 bytes (R7, R70). -/
abbrev memSize : Nat := 1048576

/-- What a byte of memory that nothing has written reads as: the creation value 0x00 of `Mem` (R66, decision D5). -/
abbrev unlistedByte : Byte := 0#8

/-- The most bytes one instruction occupies (R100). -/
abbrev maxInstrBytes : Nat := 6

end Sys2Proof.Config
end

