-- ==== Sys2Proof/Syntax.lean ====
section
/-!
DEFINITION. The instructions as data: register names, ModRM operand forms, and one constructor of `Instr` for each of
the 112 rows of `spec/opcode_table.json`, in the table's order.
-/

namespace Sys2Proof

/-- The eight general registers, in index order 0 to 7 (R31). -/
inductive Reg16 where
  | ax | cx | dx | bx | sp | bp | si | di
  deriving DecidableEq, Repr

/-- The eight 8-bit views, in index order 0 to 7 (R32). -/
inductive Reg8 where
  | al | cl | dl | bl | ah | ch | dh | bh
  deriving DecidableEq, Repr

/-- The four segment registers, in index order 0 to 3 (R39). -/
inductive SReg where
  | es | cs | ss | ds
  deriving DecidableEq, Repr

/-- The base expressions of the effective-address table, in the order of the `rm` field 0 to 7 (R106). -/
inductive Base where
  | bxSi | bxDi | bpSi | bpDi | si | di | bp | bx
  deriving DecidableEq, Repr

/-- The memory forms of a ModRM operand (R106, R107). Row 110 with mod 00 is `direct`, "the only rm pattern that means
no base register", so `base .bp` is no form of the hardware (`WellFormed.lean` refuses it). -/
inductive MemForm where
  | direct (addr : Word)
  | base (b : Base)
  | disp8 (b : Base) (d : Byte)
  | disp16 (b : Base) (d : Word)
  deriving DecidableEq, Repr

/-- The rm side of a ModRM operand: a register of the space `R` (mod 11, R104) or memory (R105). -/
inductive RM (R : Type) where
  | reg (r : R)
  | mem (m : MemForm)
  deriving DecidableEq, Repr

/-- The instructions of the core, one constructor per row of `spec/opcode_table.json` (R118, R123). Operands stand in
the Intel order, destination first (R15). -/
inductive Instr where
  /-- `ADD r/m8, r8`, opcode 00h (R161). -/
  | addRm8R8 (dst : RM Reg8) (src : Reg8)
  /-- `ADD r/m16, r16`, opcode 01h (R162). -/
  | addRm16R16 (dst : RM Reg16) (src : Reg16)
  /-- `ADD r8, r/m8`, opcode 02h (R163). -/
  | addR8Rm8 (dst : Reg8) (src : RM Reg8)
  /-- `ADD r16, r/m16`, opcode 03h (R164). -/
  | addR16Rm16 (dst : Reg16) (src : RM Reg16)
  /-- `ADD AL, imm8`, opcode 04h (R165). -/
  | addAlImm8 (imm : Byte)
  /-- `ADD AX, imm16`, opcode 05h (R166). -/
  | addAxImm16 (imm : Word)
  /-- `OR r/m8, r8`, opcode 08h (R167). -/
  | orRm8R8 (dst : RM Reg8) (src : Reg8)
  /-- `OR r/m16, r16`, opcode 09h (R168). -/
  | orRm16R16 (dst : RM Reg16) (src : Reg16)
  /-- `OR r8, r/m8`, opcode 0Ah (R169). -/
  | orR8Rm8 (dst : Reg8) (src : RM Reg8)
  /-- `OR r16, r/m16`, opcode 0Bh (R170). -/
  | orR16Rm16 (dst : Reg16) (src : RM Reg16)
  /-- `OR AL, imm8`, opcode 0Ch (R171). -/
  | orAlImm8 (imm : Byte)
  /-- `OR AX, imm16`, opcode 0Dh (R172). -/
  | orAxImm16 (imm : Word)
  /-- `ADC r/m8, r8`, opcode 10h (R173). -/
  | adcRm8R8 (dst : RM Reg8) (src : Reg8)
  /-- `ADC r/m16, r16`, opcode 11h (R174). -/
  | adcRm16R16 (dst : RM Reg16) (src : Reg16)
  /-- `ADC r8, r/m8`, opcode 12h (R175). -/
  | adcR8Rm8 (dst : Reg8) (src : RM Reg8)
  /-- `ADC r16, r/m16`, opcode 13h (R176). -/
  | adcR16Rm16 (dst : Reg16) (src : RM Reg16)
  /-- `ADC AL, imm8`, opcode 14h (R177). -/
  | adcAlImm8 (imm : Byte)
  /-- `ADC AX, imm16`, opcode 15h (R178). -/
  | adcAxImm16 (imm : Word)
  /-- `SBB r/m8, r8`, opcode 18h (R179). -/
  | sbbRm8R8 (dst : RM Reg8) (src : Reg8)
  /-- `SBB r/m16, r16`, opcode 19h (R180). -/
  | sbbRm16R16 (dst : RM Reg16) (src : Reg16)
  /-- `SBB r8, r/m8`, opcode 1Ah (R181). -/
  | sbbR8Rm8 (dst : Reg8) (src : RM Reg8)
  /-- `SBB r16, r/m16`, opcode 1Bh (R182). -/
  | sbbR16Rm16 (dst : Reg16) (src : RM Reg16)
  /-- `SBB AL, imm8`, opcode 1Ch (R183). -/
  | sbbAlImm8 (imm : Byte)
  /-- `SBB AX, imm16`, opcode 1Dh (R184). -/
  | sbbAxImm16 (imm : Word)
  /-- `AND r/m8, r8`, opcode 20h (R185). -/
  | andRm8R8 (dst : RM Reg8) (src : Reg8)
  /-- `AND r/m16, r16`, opcode 21h (R186). -/
  | andRm16R16 (dst : RM Reg16) (src : Reg16)
  /-- `AND r8, r/m8`, opcode 22h (R187). -/
  | andR8Rm8 (dst : Reg8) (src : RM Reg8)
  /-- `AND r16, r/m16`, opcode 23h (R188). -/
  | andR16Rm16 (dst : Reg16) (src : RM Reg16)
  /-- `AND AL, imm8`, opcode 24h (R189). -/
  | andAlImm8 (imm : Byte)
  /-- `AND AX, imm16`, opcode 25h (R190). -/
  | andAxImm16 (imm : Word)
  /-- `SUB r/m8, r8`, opcode 28h (R191). -/
  | subRm8R8 (dst : RM Reg8) (src : Reg8)
  /-- `SUB r/m16, r16`, opcode 29h (R192). -/
  | subRm16R16 (dst : RM Reg16) (src : Reg16)
  /-- `SUB r8, r/m8`, opcode 2Ah (R193). -/
  | subR8Rm8 (dst : Reg8) (src : RM Reg8)
  /-- `SUB r16, r/m16`, opcode 2Bh (R194). -/
  | subR16Rm16 (dst : Reg16) (src : RM Reg16)
  /-- `SUB AL, imm8`, opcode 2Ch (R195). -/
  | subAlImm8 (imm : Byte)
  /-- `SUB AX, imm16`, opcode 2Dh (R196). -/
  | subAxImm16 (imm : Word)
  /-- `XOR r/m8, r8`, opcode 30h (R197). -/
  | xorRm8R8 (dst : RM Reg8) (src : Reg8)
  /-- `XOR r/m16, r16`, opcode 31h (R198). -/
  | xorRm16R16 (dst : RM Reg16) (src : Reg16)
  /-- `XOR r8, r/m8`, opcode 32h (R199). -/
  | xorR8Rm8 (dst : Reg8) (src : RM Reg8)
  /-- `XOR r16, r/m16`, opcode 33h (R200). -/
  | xorR16Rm16 (dst : Reg16) (src : RM Reg16)
  /-- `XOR AL, imm8`, opcode 34h (R201). -/
  | xorAlImm8 (imm : Byte)
  /-- `XOR AX, imm16`, opcode 35h (R202). -/
  | xorAxImm16 (imm : Word)
  /-- `CMP r/m8, r8`, opcode 38h (R203). -/
  | cmpRm8R8 (dst : RM Reg8) (src : Reg8)
  /-- `CMP r/m16, r16`, opcode 39h (R204). -/
  | cmpRm16R16 (dst : RM Reg16) (src : Reg16)
  /-- `CMP r8, r/m8`, opcode 3Ah (R205). -/
  | cmpR8Rm8 (dst : Reg8) (src : RM Reg8)
  /-- `CMP r16, r/m16`, opcode 3Bh (R206). -/
  | cmpR16Rm16 (dst : Reg16) (src : RM Reg16)
  /-- `CMP AL, imm8`, opcode 3Ch (R207). -/
  | cmpAlImm8 (imm : Byte)
  /-- `CMP AX, imm16`, opcode 3Dh (R208). -/
  | cmpAxImm16 (imm : Word)
  /-- `PUSH ES`, opcode 06h (R276). -/
  | pushEs
  /-- `PUSH CS`, opcode 0Eh (R277). -/
  | pushCs
  /-- `PUSH SS`, opcode 16h (R278). -/
  | pushSs
  /-- `PUSH DS`, opcode 1Eh (R279). -/
  | pushDs
  /-- `POP ES`, opcode 07h (R280). -/
  | popEs
  /-- `POP SS`, opcode 17h (R281). -/
  | popSs
  /-- `POP DS`, opcode 1Fh (R282). -/
  | popDs
  /-- `PUSH r16`, opcode 50h+r (R274). -/
  | pushR16 (src : Reg16)
  /-- `POP r16`, opcode 58h+r (R275). -/
  | popR16 (dst : Reg16)
  /-- `PUSHA`, opcode 60h (R283). -/
  | pusha
  /-- `POPA`, opcode 61h (R284). -/
  | popa
  /-- `JO rel8`, opcode 70h (R302). -/
  | jo (disp : Byte)
  /-- `JNO rel8`, opcode 71h (R303). -/
  | jno (disp : Byte)
  /-- `JB rel8`, opcode 72h (R304). -/
  | jb (disp : Byte)
  /-- `JAE rel8`, opcode 73h (R305). -/
  | jae (disp : Byte)
  /-- `JE rel8`, opcode 74h (R306). -/
  | je (disp : Byte)
  /-- `JNE rel8`, opcode 75h (R307). -/
  | jne (disp : Byte)
  /-- `JBE rel8`, opcode 76h (R308). -/
  | jbe (disp : Byte)
  /-- `JA rel8`, opcode 77h (R309). -/
  | ja (disp : Byte)
  /-- `JS rel8`, opcode 78h (R310). -/
  | js (disp : Byte)
  /-- `JNS rel8`, opcode 79h (R311). -/
  | jns (disp : Byte)
  /-- `JP rel8`, opcode 7Ah (R312). -/
  | jp (disp : Byte)
  /-- `JNP rel8`, opcode 7Bh (R313). -/
  | jnp (disp : Byte)
  /-- `JL rel8`, opcode 7Ch (R314). -/
  | jl (disp : Byte)
  /-- `JGE rel8`, opcode 7Dh (R315). -/
  | jge (disp : Byte)
  /-- `JLE rel8`, opcode 7Eh (R316). -/
  | jle (disp : Byte)
  /-- `JG rel8`, opcode 7Fh (R317). -/
  | jg (disp : Byte)
  /-- `ADD r/m8, imm8`, opcode 80h /0 (R221). -/
  | addRm8Imm8 (dst : RM Reg8) (imm : Byte)
  /-- `OR r/m8, imm8`, opcode 80h /1 (R222). -/
  | orRm8Imm8 (dst : RM Reg8) (imm : Byte)
  /-- `ADC r/m8, imm8`, opcode 80h /2 (R223). -/
  | adcRm8Imm8 (dst : RM Reg8) (imm : Byte)
  /-- `SBB r/m8, imm8`, opcode 80h /3 (R224). -/
  | sbbRm8Imm8 (dst : RM Reg8) (imm : Byte)
  /-- `AND r/m8, imm8`, opcode 80h /4 (R225). -/
  | andRm8Imm8 (dst : RM Reg8) (imm : Byte)
  /-- `SUB r/m8, imm8`, opcode 80h /5 (R226). -/
  | subRm8Imm8 (dst : RM Reg8) (imm : Byte)
  /-- `XOR r/m8, imm8`, opcode 80h /6 (R227). -/
  | xorRm8Imm8 (dst : RM Reg8) (imm : Byte)
  /-- `CMP r/m8, imm8`, opcode 80h /7 (R228). -/
  | cmpRm8Imm8 (dst : RM Reg8) (imm : Byte)
  /-- `ADD r/m16, imm16`, opcode 81h /0 (R229). -/
  | addRm16Imm16 (dst : RM Reg16) (imm : Word)
  /-- `OR r/m16, imm16`, opcode 81h /1 (R230). -/
  | orRm16Imm16 (dst : RM Reg16) (imm : Word)
  /-- `ADC r/m16, imm16`, opcode 81h /2 (R231). -/
  | adcRm16Imm16 (dst : RM Reg16) (imm : Word)
  /-- `SBB r/m16, imm16`, opcode 81h /3 (R232). -/
  | sbbRm16Imm16 (dst : RM Reg16) (imm : Word)
  /-- `AND r/m16, imm16`, opcode 81h /4 (R233). -/
  | andRm16Imm16 (dst : RM Reg16) (imm : Word)
  /-- `SUB r/m16, imm16`, opcode 81h /5 (R234). -/
  | subRm16Imm16 (dst : RM Reg16) (imm : Word)
  /-- `XOR r/m16, imm16`, opcode 81h /6 (R235). -/
  | xorRm16Imm16 (dst : RM Reg16) (imm : Word)
  /-- `CMP r/m16, imm16`, opcode 81h /7 (R236). -/
  | cmpRm16Imm16 (dst : RM Reg16) (imm : Word)
  /-- `ADD r/m16, sign-extended imm8`, opcode 83h /0 (R237). -/
  | addRm16SImm8 (dst : RM Reg16) (imm : Byte)
  /-- `OR r/m16, sign-extended imm8`, opcode 83h /1 (R238). -/
  | orRm16SImm8 (dst : RM Reg16) (imm : Byte)
  /-- `ADC r/m16, sign-extended imm8`, opcode 83h /2 (R239). -/
  | adcRm16SImm8 (dst : RM Reg16) (imm : Byte)
  /-- `SBB r/m16, sign-extended imm8`, opcode 83h /3 (R240). -/
  | sbbRm16SImm8 (dst : RM Reg16) (imm : Byte)
  /-- `AND r/m16, sign-extended imm8`, opcode 83h /4 (R241). -/
  | andRm16SImm8 (dst : RM Reg16) (imm : Byte)
  /-- `SUB r/m16, sign-extended imm8`, opcode 83h /5 (R242). -/
  | subRm16SImm8 (dst : RM Reg16) (imm : Byte)
  /-- `XOR r/m16, sign-extended imm8`, opcode 83h /6 (R243). -/
  | xorRm16SImm8 (dst : RM Reg16) (imm : Byte)
  /-- `CMP r/m16, sign-extended imm8`, opcode 83h /7 (R244). -/
  | cmpRm16SImm8 (dst : RM Reg16) (imm : Byte)
  /-- `MOV r/m8, r8`, opcode 88h (R252). -/
  | movRm8R8 (dst : RM Reg8) (src : Reg8)
  /-- `MOV r/m16, r16`, opcode 89h (R253). -/
  | movRm16R16 (dst : RM Reg16) (src : Reg16)
  /-- `MOV r8, r/m8`, opcode 8Ah (R254). -/
  | movR8Rm8 (dst : Reg8) (src : RM Reg8)
  /-- `MOV r16, r/m16`, opcode 8Bh (R255). -/
  | movR16Rm16 (dst : Reg16) (src : RM Reg16)
  /-- `MOV r/m16, sreg`, opcode 8Ch (R256). -/
  | movRm16Sreg (dst : RM Reg16) (src : SReg)
  /-- `MOV sreg, r/m16`, opcode 8Eh (R257). -/
  | movSregRm16 (dst : SReg) (src : RM Reg16)
  /-- `MOV r8, imm8`, opcode B0h+r (R250). -/
  | movR8Imm8 (dst : Reg8) (imm : Byte)
  /-- `MOV r16, imm16`, opcode B8h+r (R251). -/
  | movR16Imm16 (dst : Reg16) (imm : Word)
  /-- `RET imm16`, opcode C2h (R287). -/
  | retImm16 (imm : Word)
  /-- `RET`, opcode C3h (R286). -/
  | ret
  /-- `LES r16, m16:16`, opcode C4h (R258). -/
  | les (dst : Reg16) (src : MemForm)
  /-- `LDS r16, m16:16`, opcode C5h (R259). -/
  | lds (dst : Reg16) (src : MemForm)
  /-- `INT imm8`, opcode CDh (R330). -/
  | int (vector : Byte)
  deriving DecidableEq, Repr

end Sys2Proof
end

