-- ==== Sys2Proof/WellFormed.lean ====
section
/-!
DEFINITION. Which terms of the syntax the encoding of the spec has: one check, on memory forms.
-/

namespace Sys2Proof

/-- mod 00 has no row with the base BP alone: rm 110 is the direct address there (R106, R107). -/
def MemForm.wellFormed : MemForm → Bool
  | .base .bp => false
  | .base _ => true
  | .direct _ => true
  | .disp8 _ _ => true
  | .disp16 _ _ => true

/-- A register-direct operand is always well formed, a memory operand when its form is. -/
def RM.wellFormed {R : Type} : RM R → Bool
  | .reg _ => true
  | .mem m => m.wellFormed

/-- An instruction is well formed when its rm side is. -/
def Instr.wellFormed : Instr → Bool
  | .addRm8R8 dst _ => dst.wellFormed
  | .addRm16R16 dst _ => dst.wellFormed
  | .addR8Rm8 _ src => src.wellFormed
  | .addR16Rm16 _ src => src.wellFormed
  | .addAlImm8 _ => true
  | .addAxImm16 _ => true
  | .orRm8R8 dst _ => dst.wellFormed
  | .orRm16R16 dst _ => dst.wellFormed
  | .orR8Rm8 _ src => src.wellFormed
  | .orR16Rm16 _ src => src.wellFormed
  | .orAlImm8 _ => true
  | .orAxImm16 _ => true
  | .adcRm8R8 dst _ => dst.wellFormed
  | .adcRm16R16 dst _ => dst.wellFormed
  | .adcR8Rm8 _ src => src.wellFormed
  | .adcR16Rm16 _ src => src.wellFormed
  | .adcAlImm8 _ => true
  | .adcAxImm16 _ => true
  | .sbbRm8R8 dst _ => dst.wellFormed
  | .sbbRm16R16 dst _ => dst.wellFormed
  | .sbbR8Rm8 _ src => src.wellFormed
  | .sbbR16Rm16 _ src => src.wellFormed
  | .sbbAlImm8 _ => true
  | .sbbAxImm16 _ => true
  | .andRm8R8 dst _ => dst.wellFormed
  | .andRm16R16 dst _ => dst.wellFormed
  | .andR8Rm8 _ src => src.wellFormed
  | .andR16Rm16 _ src => src.wellFormed
  | .andAlImm8 _ => true
  | .andAxImm16 _ => true
  | .subRm8R8 dst _ => dst.wellFormed
  | .subRm16R16 dst _ => dst.wellFormed
  | .subR8Rm8 _ src => src.wellFormed
  | .subR16Rm16 _ src => src.wellFormed
  | .subAlImm8 _ => true
  | .subAxImm16 _ => true
  | .xorRm8R8 dst _ => dst.wellFormed
  | .xorRm16R16 dst _ => dst.wellFormed
  | .xorR8Rm8 _ src => src.wellFormed
  | .xorR16Rm16 _ src => src.wellFormed
  | .xorAlImm8 _ => true
  | .xorAxImm16 _ => true
  | .cmpRm8R8 dst _ => dst.wellFormed
  | .cmpRm16R16 dst _ => dst.wellFormed
  | .cmpR8Rm8 _ src => src.wellFormed
  | .cmpR16Rm16 _ src => src.wellFormed
  | .cmpAlImm8 _ => true
  | .cmpAxImm16 _ => true
  | .pushEs => true
  | .pushCs => true
  | .pushSs => true
  | .pushDs => true
  | .popEs => true
  | .popSs => true
  | .popDs => true
  | .pushR16 _ => true
  | .popR16 _ => true
  | .pusha => true
  | .popa => true
  | .jo _ => true
  | .jno _ => true
  | .jb _ => true
  | .jae _ => true
  | .je _ => true
  | .jne _ => true
  | .jbe _ => true
  | .ja _ => true
  | .js _ => true
  | .jns _ => true
  | .jp _ => true
  | .jnp _ => true
  | .jl _ => true
  | .jge _ => true
  | .jle _ => true
  | .jg _ => true
  | .addRm8Imm8 dst _ => dst.wellFormed
  | .orRm8Imm8 dst _ => dst.wellFormed
  | .adcRm8Imm8 dst _ => dst.wellFormed
  | .sbbRm8Imm8 dst _ => dst.wellFormed
  | .andRm8Imm8 dst _ => dst.wellFormed
  | .subRm8Imm8 dst _ => dst.wellFormed
  | .xorRm8Imm8 dst _ => dst.wellFormed
  | .cmpRm8Imm8 dst _ => dst.wellFormed
  | .addRm16Imm16 dst _ => dst.wellFormed
  | .orRm16Imm16 dst _ => dst.wellFormed
  | .adcRm16Imm16 dst _ => dst.wellFormed
  | .sbbRm16Imm16 dst _ => dst.wellFormed
  | .andRm16Imm16 dst _ => dst.wellFormed
  | .subRm16Imm16 dst _ => dst.wellFormed
  | .xorRm16Imm16 dst _ => dst.wellFormed
  | .cmpRm16Imm16 dst _ => dst.wellFormed
  | .addRm16SImm8 dst _ => dst.wellFormed
  | .orRm16SImm8 dst _ => dst.wellFormed
  | .adcRm16SImm8 dst _ => dst.wellFormed
  | .sbbRm16SImm8 dst _ => dst.wellFormed
  | .andRm16SImm8 dst _ => dst.wellFormed
  | .subRm16SImm8 dst _ => dst.wellFormed
  | .xorRm16SImm8 dst _ => dst.wellFormed
  | .cmpRm16SImm8 dst _ => dst.wellFormed
  | .movRm8R8 dst _ => dst.wellFormed
  | .movRm16R16 dst _ => dst.wellFormed
  | .movR8Rm8 _ src => src.wellFormed
  | .movR16Rm16 _ src => src.wellFormed
  | .movRm16Sreg dst _ => dst.wellFormed
  | .movSregRm16 _ src => src.wellFormed
  | .movR8Imm8 _ _ => true
  | .movR16Imm16 _ _ => true
  | .retImm16 _ => true
  | .ret => true
  | .les _ src => src.wellFormed
  | .lds _ src => src.wellFormed
  | .int _ => true

end Sys2Proof
end

