-- ==== Sys2Proof/Decode.lean ====
section
/-!
DEFINITION. The decoder, total on any bytes and rejecting by name, and after it the encoder, both written from the
encoding tables of `30_encoding.md`. The decoder reads its bytes in the order of R92 and stops at the first thing that
is wrong, so that the priority of R349 is the order of its reads.
-/

namespace Sys2Proof

/-! ## Byte order and bit fields -/

/-- A word from its two bytes, the low one first in memory (R78). -/
def wordOfBytes (lo hi : Byte) : Word := hi ++ lo

/-- Bits 7..0 of a word. -/
def lowByte (w : Word) : Byte := w.extractLsb' 0 8

/-- Bits 15..8 of a word. -/
def highByte (w : Word) : Byte := w.extractLsb' 8 8

/-- `sext_16` of a byte (R10). -/
def sext16 (b : Byte) : Word := b.signExtend 16

/-- ModRM bits 7..6 (R103). -/
def modField (m : Byte) : BitVec 2 := m.extractLsb' 6 2

/-- ModRM bits 5..3, the decoder's R1 (R103). -/
def regField (m : Byte) : BitVec 3 := m.extractLsb' 3 3

/-- ModRM bits 2..0 (R103). -/
def rmField (m : Byte) : BitVec 3 := m.extractLsb' 0 3

/-- The register index in `op[2:0]` of 50h..5Fh and B0h..BFh (R102 b). -/
def opReg (op : Byte) : BitVec 3 := op.extractLsb' 0 3

/-! ## Register numbers -/

/-- Index to general register (R31). -/
def Reg16.ofCode (c : BitVec 3) : Reg16 :=
  match c.toNat with
  | 0 => .ax | 1 => .cx | 2 => .dx | 3 => .bx | 4 => .sp | 5 => .bp | 6 => .si | _ => .di

/-- General register to index (R31). -/
def Reg16.code : Reg16 → BitVec 3
  | .ax => 0 | .cx => 1 | .dx => 2 | .bx => 3 | .sp => 4 | .bp => 5 | .si => 6 | .di => 7

/-- Index to 8-bit view (R32). -/
def Reg8.ofCode (c : BitVec 3) : Reg8 :=
  match c.toNat with
  | 0 => .al | 1 => .cl | 2 => .dl | 3 => .bl | 4 => .ah | 5 => .ch | 6 => .dh | _ => .bh

/-- 8-bit view to index (R32). -/
def Reg8.code : Reg8 → BitVec 3
  | .al => 0 | .cl => 1 | .dl => 2 | .bl => 3 | .ah => 4 | .ch => 5 | .dh => 6 | .bh => 7

/-- Index to segment register; 4 to 7 name none (R39, R120 a). -/
def SReg.ofCode (c : BitVec 3) : Option SReg :=
  match c.toNat with
  | 0 => some .es | 1 => some .cs | 2 => some .ss | 3 => some .ds | _ => none

/-- Segment register to index (R39). -/
def SReg.code : SReg → BitVec 3
  | .es => 0 | .cs => 1 | .ss => 2 | .ds => 3

/-- `rm` field to base expression (R106). -/
def Base.ofCode (c : BitVec 3) : Base :=
  match c.toNat with
  | 0 => .bxSi | 1 => .bxDi | 2 => .bpSi | 3 => .bpDi | 4 => .si | 5 => .di | 6 => .bp | _ => .bx

/-- Base expression to `rm` field (R106). -/
def Base.code : Base → BitVec 3
  | .bxSi => 0 | .bxDi => 1 | .bpSi => 2 | .bpDi => 3 | .si => 4 | .di => 5 | .bp => 6 | .bx => 7

/-! ## Lengths -/

/-- The decoder's length of a memory form: opcode, ModRM and displacement (R107). -/
def MemForm.len : MemForm → Nat
  | .direct _ => 4
  | .base _ => 2
  | .disp8 _ _ => 3
  | .disp16 _ _ => 4

/-- The decoder's length `len_m` (R104, R107); a trailing immediate is not counted (R108). -/
def RM.len {R : Type} : RM R → Nat
  | .reg _ => 2
  | .mem m => m.len

/-! ## The decoder -/

/-- Why the decoder refuses. -/
inductive DecodeError where
  /-- The instruction field that starts `offset` bytes after the opcode is not all there. -/
  | missing (offset : Nat)
  /-- No instruction has this opcode byte (R119). -/
  | opcode (op : Byte)
  /-- The instruction does not implement this ModRM sub-mode (R120). -/
  | modrm (op modrm : Byte)
  deriving DecidableEq, Repr

/-- One instruction byte, `Fetch8` at `ip + k` (R82). -/
def byteAt (bs : List Byte) (k : Nat) : Except DecodeError Byte :=
  match bs[k]? with
  | some b => .ok b
  | none => .error (.missing k)

/-- One instruction word, `Fetch16` at `ip + k`, low byte first (R82, R78); refused as one access (R349). -/
def wordAt (bs : List Byte) (k : Nat) : Except DecodeError Word :=
  match bs[k]?, bs[k + 1]? with
  | some lo, some hi => .ok (wordOfBytes lo hi)
  | _, _ => .error (.missing k)

/-- The memory form of `mod` 00, 01 or 10 (R106, R107, R109). -/
def decodeMem (mod : BitVec 2) (rm : BitVec 3) (bs : List Byte) : Except DecodeError MemForm :=
  match mod.toNat with
  | 0 => if rm = 6#3 then (wordAt bs 2).map .direct else .ok (.base (Base.ofCode rm))
  | 1 => (byteAt bs 2).map (.disp8 (Base.ofCode rm))
  | _ => (wordAt bs 2).map (.disp16 (Base.ofCode rm))

/-- The rm side (R103 to R105, R109); `ofCode` reads R2 in the instruction's register space (R112). -/
def decodeRM {R : Type} (ofCode : BitVec 3 → R) (m : Byte) (bs : List Byte) : Except DecodeError (RM R) :=
  if modField m = 3#2 then .ok (.reg (ofCode (rmField m)))
  else (decodeMem (modField m) (rmField m) bs).map .mem

/-- Format `MODRM` of the ALU and MOV r/m rows, whose two sides share a register space (R101, R112). -/
def decodeModrm {R : Type} (ofCode : BitVec 3 → R) (mk : RM R → R → Instr) (bs : List Byte) :
    Except DecodeError Instr := do
  let m ← byteAt bs 1
  let rm ← decodeRM ofCode m bs
  return mk rm (ofCode (regField m))

/-- Format `MODRM` of 8Ch and 8Eh: R1 names a segment register, checked right after the ModRM byte (R120 a, R342). -/
def decodeModrmSeg (op : Byte) (mk : RM Reg16 → SReg → Instr) (bs : List Byte) : Except DecodeError Instr := do
  let m ← byteAt bs 1
  match SReg.ofCode (regField m) with
  | none => .error (.modrm op m)
  | some sr => do
    let rm ← decodeRM Reg16.ofCode m bs
    return mk rm sr

/-- Format `MODRM` of LES and LDS: memory form only, checked right after the ModRM byte (R120 b, R342). -/
def decodeFar (op : Byte) (mk : Reg16 → MemForm → Instr) (bs : List Byte) : Except DecodeError Instr := do
  let m ← byteAt bs 1
  if modField m = 3#2 then .error (.modrm op m)
  else do
    let mf ← decodeMem (modField m) (rmField m) bs
    return mk (Reg16.ofCode (regField m)) mf

/-- Formats `MODRM_I8` and `MODRM_I16` of the immediate group: `sub` picks the operation from the reg field, and the
immediate stands after the decoder's bytes (R110, R117, R220). -/
def decodeGroup {R I : Type} (ofCode : BitVec 3 → R) (imm : List Byte → Nat → Except DecodeError I)
    (sub : BitVec 3 → RM R → I → Instr) (bs : List Byte) : Except DecodeError Instr := do
  let m ← byteAt bs 1
  let rm ← decodeRM ofCode m bs
  let v ← imm bs rm.len
  return sub (regField m) rm v

/-- Format `OP_I8` (R101, R110). -/
def decodeI8 (mk : Byte → Instr) (bs : List Byte) : Except DecodeError Instr := (byteAt bs 1).map mk

/-- Format `OP_I16` (R101, R110). -/
def decodeI16 (mk : Word → Instr) (bs : List Byte) : Except DecodeError Instr := (wordAt bs 1).map mk

/-- The sub-opcodes of 80h, /0 to /7 (R117, R221 to R228). -/
def group80 (sub : BitVec 3) : RM Reg8 → Byte → Instr :=
  match sub.toNat with
  | 0 => .addRm8Imm8
  | 1 => .orRm8Imm8
  | 2 => .adcRm8Imm8
  | 3 => .sbbRm8Imm8
  | 4 => .andRm8Imm8
  | 5 => .subRm8Imm8
  | 6 => .xorRm8Imm8
  | _ => .cmpRm8Imm8

/-- The sub-opcodes of 81h, /0 to /7 (R117, R229 to R236). -/
def group81 (sub : BitVec 3) : RM Reg16 → Word → Instr :=
  match sub.toNat with
  | 0 => .addRm16Imm16
  | 1 => .orRm16Imm16
  | 2 => .adcRm16Imm16
  | 3 => .sbbRm16Imm16
  | 4 => .andRm16Imm16
  | 5 => .subRm16Imm16
  | 6 => .xorRm16Imm16
  | _ => .cmpRm16Imm16

/-- The sub-opcodes of 83h, /0 to /7 (R117, R237 to R244). -/
def group83 (sub : BitVec 3) : RM Reg16 → Byte → Instr :=
  match sub.toNat with
  | 0 => .addRm16SImm8
  | 1 => .orRm16SImm8
  | 2 => .adcRm16SImm8
  | 3 => .sbbRm16SImm8
  | 4 => .andRm16SImm8
  | 5 => .subRm16SImm8
  | 6 => .xorRm16SImm8
  | _ => .cmpRm16SImm8

/-- The dispatch table: "each opcode byte maps to exactly one handler" (R114, R118); every other byte is unimplemented
(R119). `bs` are the instruction's bytes from the opcode on. -/
def decodeOpcode (op : Byte) (bs : List Byte) : Except DecodeError Instr :=
  match op.toNat with
  | 0x00 => decodeModrm Reg8.ofCode .addRm8R8 bs
  | 0x01 => decodeModrm Reg16.ofCode .addRm16R16 bs
  | 0x02 => decodeModrm Reg8.ofCode (fun rm r => .addR8Rm8 r rm) bs
  | 0x03 => decodeModrm Reg16.ofCode (fun rm r => .addR16Rm16 r rm) bs
  | 0x04 => decodeI8 .addAlImm8 bs
  | 0x05 => decodeI16 .addAxImm16 bs
  | 0x06 => .ok .pushEs
  | 0x07 => .ok .popEs
  | 0x08 => decodeModrm Reg8.ofCode .orRm8R8 bs
  | 0x09 => decodeModrm Reg16.ofCode .orRm16R16 bs
  | 0x0A => decodeModrm Reg8.ofCode (fun rm r => .orR8Rm8 r rm) bs
  | 0x0B => decodeModrm Reg16.ofCode (fun rm r => .orR16Rm16 r rm) bs
  | 0x0C => decodeI8 .orAlImm8 bs
  | 0x0D => decodeI16 .orAxImm16 bs
  | 0x0E => .ok .pushCs
  | 0x10 => decodeModrm Reg8.ofCode .adcRm8R8 bs
  | 0x11 => decodeModrm Reg16.ofCode .adcRm16R16 bs
  | 0x12 => decodeModrm Reg8.ofCode (fun rm r => .adcR8Rm8 r rm) bs
  | 0x13 => decodeModrm Reg16.ofCode (fun rm r => .adcR16Rm16 r rm) bs
  | 0x14 => decodeI8 .adcAlImm8 bs
  | 0x15 => decodeI16 .adcAxImm16 bs
  | 0x16 => .ok .pushSs
  | 0x17 => .ok .popSs
  | 0x18 => decodeModrm Reg8.ofCode .sbbRm8R8 bs
  | 0x19 => decodeModrm Reg16.ofCode .sbbRm16R16 bs
  | 0x1A => decodeModrm Reg8.ofCode (fun rm r => .sbbR8Rm8 r rm) bs
  | 0x1B => decodeModrm Reg16.ofCode (fun rm r => .sbbR16Rm16 r rm) bs
  | 0x1C => decodeI8 .sbbAlImm8 bs
  | 0x1D => decodeI16 .sbbAxImm16 bs
  | 0x1E => .ok .pushDs
  | 0x1F => .ok .popDs
  | 0x20 => decodeModrm Reg8.ofCode .andRm8R8 bs
  | 0x21 => decodeModrm Reg16.ofCode .andRm16R16 bs
  | 0x22 => decodeModrm Reg8.ofCode (fun rm r => .andR8Rm8 r rm) bs
  | 0x23 => decodeModrm Reg16.ofCode (fun rm r => .andR16Rm16 r rm) bs
  | 0x24 => decodeI8 .andAlImm8 bs
  | 0x25 => decodeI16 .andAxImm16 bs
  | 0x28 => decodeModrm Reg8.ofCode .subRm8R8 bs
  | 0x29 => decodeModrm Reg16.ofCode .subRm16R16 bs
  | 0x2A => decodeModrm Reg8.ofCode (fun rm r => .subR8Rm8 r rm) bs
  | 0x2B => decodeModrm Reg16.ofCode (fun rm r => .subR16Rm16 r rm) bs
  | 0x2C => decodeI8 .subAlImm8 bs
  | 0x2D => decodeI16 .subAxImm16 bs
  | 0x30 => decodeModrm Reg8.ofCode .xorRm8R8 bs
  | 0x31 => decodeModrm Reg16.ofCode .xorRm16R16 bs
  | 0x32 => decodeModrm Reg8.ofCode (fun rm r => .xorR8Rm8 r rm) bs
  | 0x33 => decodeModrm Reg16.ofCode (fun rm r => .xorR16Rm16 r rm) bs
  | 0x34 => decodeI8 .xorAlImm8 bs
  | 0x35 => decodeI16 .xorAxImm16 bs
  | 0x38 => decodeModrm Reg8.ofCode .cmpRm8R8 bs
  | 0x39 => decodeModrm Reg16.ofCode .cmpRm16R16 bs
  | 0x3A => decodeModrm Reg8.ofCode (fun rm r => .cmpR8Rm8 r rm) bs
  | 0x3B => decodeModrm Reg16.ofCode (fun rm r => .cmpR16Rm16 r rm) bs
  | 0x3C => decodeI8 .cmpAlImm8 bs
  | 0x3D => decodeI16 .cmpAxImm16 bs
  | 0x50 | 0x51 | 0x52 | 0x53 | 0x54 | 0x55 | 0x56 | 0x57 => .ok (.pushR16 (Reg16.ofCode (opReg op)))
  | 0x58 | 0x59 | 0x5A | 0x5B | 0x5C | 0x5D | 0x5E | 0x5F => .ok (.popR16 (Reg16.ofCode (opReg op)))
  | 0x60 => .ok .pusha
  | 0x61 => .ok .popa
  | 0x70 => decodeI8 .jo bs
  | 0x71 => decodeI8 .jno bs
  | 0x72 => decodeI8 .jb bs
  | 0x73 => decodeI8 .jae bs
  | 0x74 => decodeI8 .je bs
  | 0x75 => decodeI8 .jne bs
  | 0x76 => decodeI8 .jbe bs
  | 0x77 => decodeI8 .ja bs
  | 0x78 => decodeI8 .js bs
  | 0x79 => decodeI8 .jns bs
  | 0x7A => decodeI8 .jp bs
  | 0x7B => decodeI8 .jnp bs
  | 0x7C => decodeI8 .jl bs
  | 0x7D => decodeI8 .jge bs
  | 0x7E => decodeI8 .jle bs
  | 0x7F => decodeI8 .jg bs
  | 0x80 => decodeGroup Reg8.ofCode byteAt group80 bs
  | 0x81 => decodeGroup Reg16.ofCode wordAt group81 bs
  | 0x83 => decodeGroup Reg16.ofCode byteAt group83 bs
  | 0x88 => decodeModrm Reg8.ofCode .movRm8R8 bs
  | 0x89 => decodeModrm Reg16.ofCode .movRm16R16 bs
  | 0x8A => decodeModrm Reg8.ofCode (fun rm r => .movR8Rm8 r rm) bs
  | 0x8B => decodeModrm Reg16.ofCode (fun rm r => .movR16Rm16 r rm) bs
  | 0x8C => decodeModrmSeg op .movRm16Sreg bs
  | 0x8E => decodeModrmSeg op (fun rm sr => .movSregRm16 sr rm) bs
  | 0xB0 | 0xB1 | 0xB2 | 0xB3 | 0xB4 | 0xB5 | 0xB6 | 0xB7 => decodeI8 (.movR8Imm8 (Reg8.ofCode (opReg op))) bs
  | 0xB8 | 0xB9 | 0xBA | 0xBB | 0xBC | 0xBD | 0xBE | 0xBF => decodeI16 (.movR16Imm16 (Reg16.ofCode (opReg op))) bs
  | 0xC2 => decodeI16 .retImm16 bs
  | 0xC3 => .ok .ret
  | 0xC4 => decodeFar op .les bs
  | 0xC5 => decodeFar op .lds bs
  | 0xCD => decodeI8 .int bs
  | _ => .error (.opcode op)

/-- The decoder: the instruction that starts the list of bytes, or why there is none. Bytes after it are not read. -/
def decode (bs : List Byte) : Except DecodeError Instr :=
  match bs with
  | [] => .error (.missing 0)
  | op :: _ => decodeOpcode op bs

/-! ## The encoder -/

/-- A ModRM byte from its fields (R103). -/
def modrmByte (mod : BitVec 2) (reg rm : BitVec 3) : Byte := mod ++ reg ++ rm

/-- A word as instruction bytes, low byte first (R78, R110). -/
def wordBytes (w : Word) : List Byte := [lowByte w, highByte w]

/-- ModRM and displacement bytes of a memory form (R106, R107). -/
def encodeMem (reg : BitVec 3) : MemForm → List Byte
  | .direct a => modrmByte 0 reg 6 :: wordBytes a
  | .base b => [modrmByte 0 reg b.code]
  | .disp8 b d => [modrmByte 1 reg b.code, d]
  | .disp16 b d => modrmByte 2 reg b.code :: wordBytes d

/-- ModRM and displacement bytes of an rm side (R104, R105). -/
def encodeRM {R : Type} (code : R → BitVec 3) (reg : BitVec 3) : RM R → List Byte
  | .reg r => [modrmByte 3 reg (code r)]
  | .mem m => encodeMem reg m

/-- The words of an instruction, from the opcode map and the formats (R101, R118). -/
def encode : Instr → List Byte
  | .addRm8R8 dst src => 0x00 :: encodeRM Reg8.code src.code dst
  | .addRm16R16 dst src => 0x01 :: encodeRM Reg16.code src.code dst
  | .addR8Rm8 dst src => 0x02 :: encodeRM Reg8.code dst.code src
  | .addR16Rm16 dst src => 0x03 :: encodeRM Reg16.code dst.code src
  | .addAlImm8 imm => [0x04, imm]
  | .addAxImm16 imm => 0x05 :: wordBytes imm
  | .orRm8R8 dst src => 0x08 :: encodeRM Reg8.code src.code dst
  | .orRm16R16 dst src => 0x09 :: encodeRM Reg16.code src.code dst
  | .orR8Rm8 dst src => 0x0A :: encodeRM Reg8.code dst.code src
  | .orR16Rm16 dst src => 0x0B :: encodeRM Reg16.code dst.code src
  | .orAlImm8 imm => [0x0C, imm]
  | .orAxImm16 imm => 0x0D :: wordBytes imm
  | .adcRm8R8 dst src => 0x10 :: encodeRM Reg8.code src.code dst
  | .adcRm16R16 dst src => 0x11 :: encodeRM Reg16.code src.code dst
  | .adcR8Rm8 dst src => 0x12 :: encodeRM Reg8.code dst.code src
  | .adcR16Rm16 dst src => 0x13 :: encodeRM Reg16.code dst.code src
  | .adcAlImm8 imm => [0x14, imm]
  | .adcAxImm16 imm => 0x15 :: wordBytes imm
  | .sbbRm8R8 dst src => 0x18 :: encodeRM Reg8.code src.code dst
  | .sbbRm16R16 dst src => 0x19 :: encodeRM Reg16.code src.code dst
  | .sbbR8Rm8 dst src => 0x1A :: encodeRM Reg8.code dst.code src
  | .sbbR16Rm16 dst src => 0x1B :: encodeRM Reg16.code dst.code src
  | .sbbAlImm8 imm => [0x1C, imm]
  | .sbbAxImm16 imm => 0x1D :: wordBytes imm
  | .andRm8R8 dst src => 0x20 :: encodeRM Reg8.code src.code dst
  | .andRm16R16 dst src => 0x21 :: encodeRM Reg16.code src.code dst
  | .andR8Rm8 dst src => 0x22 :: encodeRM Reg8.code dst.code src
  | .andR16Rm16 dst src => 0x23 :: encodeRM Reg16.code dst.code src
  | .andAlImm8 imm => [0x24, imm]
  | .andAxImm16 imm => 0x25 :: wordBytes imm
  | .subRm8R8 dst src => 0x28 :: encodeRM Reg8.code src.code dst
  | .subRm16R16 dst src => 0x29 :: encodeRM Reg16.code src.code dst
  | .subR8Rm8 dst src => 0x2A :: encodeRM Reg8.code dst.code src
  | .subR16Rm16 dst src => 0x2B :: encodeRM Reg16.code dst.code src
  | .subAlImm8 imm => [0x2C, imm]
  | .subAxImm16 imm => 0x2D :: wordBytes imm
  | .xorRm8R8 dst src => 0x30 :: encodeRM Reg8.code src.code dst
  | .xorRm16R16 dst src => 0x31 :: encodeRM Reg16.code src.code dst
  | .xorR8Rm8 dst src => 0x32 :: encodeRM Reg8.code dst.code src
  | .xorR16Rm16 dst src => 0x33 :: encodeRM Reg16.code dst.code src
  | .xorAlImm8 imm => [0x34, imm]
  | .xorAxImm16 imm => 0x35 :: wordBytes imm
  | .cmpRm8R8 dst src => 0x38 :: encodeRM Reg8.code src.code dst
  | .cmpRm16R16 dst src => 0x39 :: encodeRM Reg16.code src.code dst
  | .cmpR8Rm8 dst src => 0x3A :: encodeRM Reg8.code dst.code src
  | .cmpR16Rm16 dst src => 0x3B :: encodeRM Reg16.code dst.code src
  | .cmpAlImm8 imm => [0x3C, imm]
  | .cmpAxImm16 imm => 0x3D :: wordBytes imm
  | .pushEs => [0x06]
  | .pushCs => [0x0E]
  | .pushSs => [0x16]
  | .pushDs => [0x1E]
  | .popEs => [0x07]
  | .popSs => [0x17]
  | .popDs => [0x1F]
  | .pushR16 src => [0b01010#5 ++ src.code]
  | .popR16 dst => [0b01011#5 ++ dst.code]
  | .pusha => [0x60]
  | .popa => [0x61]
  | .jo disp => [0x70, disp]
  | .jno disp => [0x71, disp]
  | .jb disp => [0x72, disp]
  | .jae disp => [0x73, disp]
  | .je disp => [0x74, disp]
  | .jne disp => [0x75, disp]
  | .jbe disp => [0x76, disp]
  | .ja disp => [0x77, disp]
  | .js disp => [0x78, disp]
  | .jns disp => [0x79, disp]
  | .jp disp => [0x7A, disp]
  | .jnp disp => [0x7B, disp]
  | .jl disp => [0x7C, disp]
  | .jge disp => [0x7D, disp]
  | .jle disp => [0x7E, disp]
  | .jg disp => [0x7F, disp]
  | .addRm8Imm8 dst imm => 0x80 :: (encodeRM Reg8.code 0 dst ++ [imm])
  | .orRm8Imm8 dst imm => 0x80 :: (encodeRM Reg8.code 1 dst ++ [imm])
  | .adcRm8Imm8 dst imm => 0x80 :: (encodeRM Reg8.code 2 dst ++ [imm])
  | .sbbRm8Imm8 dst imm => 0x80 :: (encodeRM Reg8.code 3 dst ++ [imm])
  | .andRm8Imm8 dst imm => 0x80 :: (encodeRM Reg8.code 4 dst ++ [imm])
  | .subRm8Imm8 dst imm => 0x80 :: (encodeRM Reg8.code 5 dst ++ [imm])
  | .xorRm8Imm8 dst imm => 0x80 :: (encodeRM Reg8.code 6 dst ++ [imm])
  | .cmpRm8Imm8 dst imm => 0x80 :: (encodeRM Reg8.code 7 dst ++ [imm])
  | .addRm16Imm16 dst imm => 0x81 :: (encodeRM Reg16.code 0 dst ++ wordBytes imm)
  | .orRm16Imm16 dst imm => 0x81 :: (encodeRM Reg16.code 1 dst ++ wordBytes imm)
  | .adcRm16Imm16 dst imm => 0x81 :: (encodeRM Reg16.code 2 dst ++ wordBytes imm)
  | .sbbRm16Imm16 dst imm => 0x81 :: (encodeRM Reg16.code 3 dst ++ wordBytes imm)
  | .andRm16Imm16 dst imm => 0x81 :: (encodeRM Reg16.code 4 dst ++ wordBytes imm)
  | .subRm16Imm16 dst imm => 0x81 :: (encodeRM Reg16.code 5 dst ++ wordBytes imm)
  | .xorRm16Imm16 dst imm => 0x81 :: (encodeRM Reg16.code 6 dst ++ wordBytes imm)
  | .cmpRm16Imm16 dst imm => 0x81 :: (encodeRM Reg16.code 7 dst ++ wordBytes imm)
  | .addRm16SImm8 dst imm => 0x83 :: (encodeRM Reg16.code 0 dst ++ [imm])
  | .orRm16SImm8 dst imm => 0x83 :: (encodeRM Reg16.code 1 dst ++ [imm])
  | .adcRm16SImm8 dst imm => 0x83 :: (encodeRM Reg16.code 2 dst ++ [imm])
  | .sbbRm16SImm8 dst imm => 0x83 :: (encodeRM Reg16.code 3 dst ++ [imm])
  | .andRm16SImm8 dst imm => 0x83 :: (encodeRM Reg16.code 4 dst ++ [imm])
  | .subRm16SImm8 dst imm => 0x83 :: (encodeRM Reg16.code 5 dst ++ [imm])
  | .xorRm16SImm8 dst imm => 0x83 :: (encodeRM Reg16.code 6 dst ++ [imm])
  | .cmpRm16SImm8 dst imm => 0x83 :: (encodeRM Reg16.code 7 dst ++ [imm])
  | .movRm8R8 dst src => 0x88 :: encodeRM Reg8.code src.code dst
  | .movRm16R16 dst src => 0x89 :: encodeRM Reg16.code src.code dst
  | .movR8Rm8 dst src => 0x8A :: encodeRM Reg8.code dst.code src
  | .movR16Rm16 dst src => 0x8B :: encodeRM Reg16.code dst.code src
  | .movRm16Sreg dst src => 0x8C :: encodeRM Reg16.code src.code dst
  | .movSregRm16 dst src => 0x8E :: encodeRM Reg16.code dst.code src
  | .movR8Imm8 dst imm => [0b10110#5 ++ dst.code, imm]
  | .movR16Imm16 dst imm => (0b10111#5 ++ dst.code) :: wordBytes imm
  | .retImm16 imm => 0xC2 :: wordBytes imm
  | .ret => [0xC3]
  | .les dst src => 0xC4 :: encodeMem dst.code src
  | .lds dst src => 0xC5 :: encodeMem dst.code src
  | .int vector => [0xCD, vector]

/-! ## The opcode table's numbering -/

/-- The bytes of a table word: `spec/opcode_table.json` compares the 16-bit window `Fetch8(ip) * 256 + Fetch8(ip+1)`
(R123), so a 16-bit word holds its first byte in bits 15..8, and a further word's bits count on from bit 16. Bits at
and above `nbits` are zero, up to the longest instruction. A word of 8 bits or fewer is one byte (log 1). -/
def tableBytes (nbits w : Nat) : List Byte :=
  let v := w % 2 ^ nbits
  if nbits ≤ 8 then [BitVec.ofNat 8 v, 0, 0, 0, 0, 0]
  else [BitVec.ofNat 8 (v >>> 8), BitVec.ofNat 8 v, BitVec.ofNat 8 (v >>> 24), BitVec.ofNat 8 (v >>> 16),
    BitVec.ofNat 8 (v >>> 40), BitVec.ofNat 8 (v >>> 32)]

/-- The instruction the decoder reads from a table word, none where it refuses. -/
def decodeTableWord (nbits w : Nat) : Option Instr :=
  match decode (tableBytes nbits w) with
  | .ok i => some i
  | .error _ => none

end Sys2Proof
end

