-- ==== Sys2Proof/Machine/State.lean ====
section
/-!
DEFINITION. The state of one core as plain data (R30, R55), the reasons a step can stop, and the state after reset.
-/

namespace Sys2Proof.Machine

/-! ## Why a step stops -/

/-- The fatal reasons, `FatalReason` of the spec (R340). A fatal ends every run in progress and is returned to the
caller of `Execute` (R350, R358); the state the host then finds is the one the step started from (R348, log 8). -/
inductive Fault where
  /-- Raised by the run loop for an opcode byte outside the dispatch table (R341). Safe: the spec stops there. -/
  | unimplementedOpcode (op : Byte) (ip : Int)
  /-- Raised by 8Ch/8Eh with reg 4..7 and by C4h/C5h with mod 11 (R342). Safe: the spec stops there. -/
  | unimplementedModRM (op modrm : Byte) (ip : Int)
  /-- Raised by INT with no service registered for its vector (R343). Safe: the spec stops there. -/
  | unregisteredVector (v : Byte) (ip : Int)
  /-- Raised by any fetch, data access, stack access or `GetInDs` whose bytes are not all inside memory; `p` is the
  first address of the refused access (R344). Safe: the spec stops there. -/
  | addressOutOfRange (p : Int)
  /-- Raised by the INT 21h platform service for AH other than 09h and 4Ch (R345). Safe: the spec stops there. -/
  | unimplementedService (ah : Byte)
  deriving DecidableEq, Repr

/-- What the model does not give a meaning. None of these is an instruction of the opcode table. -/
inductive Refusal where
  /-- Raised by `exec` for an instruction that has no meaning yet. Safe. -/
  | notModelled (mnemonic : String)
  /-- Raised when the host makes a call that its contract does not allow at this point: registering a vector or
  loading memory during a run (R62, R63), or returning or emitting outside a service (log 9). Safe. -/
  | hostCallOutOfPlace
  /-- Raised when the loader writes bytes outside memory (R383 step 2 requires them inside; log 9). Safe. -/
  | hostLoadOutOfRange
  deriving DecidableEq, Repr

/-! ## Registers and flags -/

/-- The eight general 16-bit cells (R31). -/
structure Gpr where
  ax : Word
  cx : Word
  dx : Word
  bx : Word
  sp : Word
  bp : Word
  si : Word
  di : Word
  deriving DecidableEq, Repr

/-- The four segment registers (R39). -/
structure Segs where
  es : Word
  cs : Word
  ss : Word
  ds : Word
  deriving DecidableEq, Repr

/-- The nine named flags (R46). They have no bit layout (R51). -/
structure Flags where
  CF : Bool
  PF : Bool
  AF : Bool
  ZF : Bool
  SF : Bool
  TF : Bool
  IF : Bool
  DF : Bool
  OF : Bool
  deriving DecidableEq, Repr

/-! ## Memory and the interrupt table -/

/-- Memory as the list of its bytes that differ from `Config.unlistedByte`, addresses strictly rising (R70). -/
abbrev Memory := List Host.Cell

/-- A service the host can register (R54, R355). -/
inductive Service where
  /-- The INT 21h platform service (R360). -/
  | dos21
  /-- Any other callback of the host; `id` tells callbacks apart. What it does is the host's: it makes the calls of
  `State.host` (log 5). -/
  | callback (id : Nat)
  deriving DecidableEq, Repr

/-- The interrupt table: the registered vectors, strictly rising, with their services; a vector not listed is
unregistered (R54). -/
abbrev IntTable := List (Byte × Service)

/-! ## Runs in progress -/

/-- How far the service of an executed INT has come. -/
inductive Activation where
  /-- `Dos21` has been called and has not yet read AH (R361). -/
  | dosEntry
  /-- `Dos21` is writing a string and reads the byte at `DS:off` next (R362). -/
  | dosString (off : Word)
  /-- A callback of the host runs and makes the next call of `State.host`. -/
  | callback (id : Nat)
  deriving DecidableEq, Repr

/-- One level of the nesting of runs and services (R55, R358). -/
inductive Frame where
  /-- A run in progress with its bound (R60). -/
  | run (ipEnd : Int)
  /-- The service of the INT at address `intIp` of the run below (R330). -/
  | service (intIp : Int) (act : Activation)
  deriving DecidableEq, Repr

/-- The result of a run (R64, R351). -/
inductive RunResult where
  | completed
  | exited
  | fatal (reason : Fault)
  deriving DecidableEq, Repr

/-! ## The host's calls -/

/-- What a service returns to its INT (R330): `resume` is the spec's `Continue`. -/
inductive ServiceResult where
  | resume
  | exit
  | fatal (reason : Fault)
  deriving DecidableEq, Repr

/-- One call of the host on the core's interface (R60 to R63, R330, R355, R383). -/
inductive HostCall where
  | getReg8 (r : Reg8)
  | getReg16 (r : Reg16)
  | getSeg (r : SReg)
  | setReg8 (r : Reg8) (v : Byte)
  | setReg16 (r : Reg16) (v : Word)
  | setSeg (r : SReg) (v : Word)
  | getInDs (off : Word)
  | execute (ipStart ipEnd : Int)
  /-- Between runs only: `SetInterruptHandler` (R63). -/
  | setInterruptHandler (v : Byte) (svc : Service)
  /-- Between runs only: the loader writes bytes (R383 step 2). -/
  | load (addr : Nat) (bytes : List Byte)
  /-- In a service only: append a byte to the output sink (R355). -/
  | emit (b : Byte)
  /-- In a service only: return to the INT (R330). -/
  | ret (r : ServiceResult)
  deriving DecidableEq, Repr

/-! ## The state -/

/-- The architectural state (R30), the runs in progress (R55), the last result (R64), the output sink (R362) and the
host's calls to come (log 5). -/
structure State where
  gpr : Gpr
  sreg : Segs
  flags : Flags
  /-- The instruction pointer, an unbounded index into memory (R42, R43). -/
  ip : Int
  mem : Memory
  intTable : IntTable
  /-- Runs and services in progress, innermost first; none when the core is idle (R375). -/
  frames : List Frame
  /-- The result of the last outermost run. -/
  result : Option RunResult
  /-- The bytes written by INT 21h AH = 09h and emitted by callbacks, oldest first. -/
  sink : List Byte
  /-- The calls the host makes, next one first. -/
  host : List HostCall
  deriving DecidableEq, Repr

/-- The core when it is created (R66, R380): every register, flag and memory byte 0, no vector registered, no run in
progress. `ip` has no value until a run starts; the model holds 0 (log 3). -/
def State.reset : State where
  gpr := { ax := 0, cx := 0, dx := 0, bx := 0, sp := 0, bp := 0, si := 0, di := 0 }
  sreg := { es := 0, cs := 0, ss := 0, ds := 0 }
  flags := { CF := false, PF := false, AF := false, ZF := false, SF := false, TF := false, IF := false,
             DF := false, OF := false }
  ip := 0
  mem := []
  intTable := []
  frames := []
  result := none
  sink := []
  host := []

end Sys2Proof.Machine
end

