-- ==== Sys2Proof/Machine/Flags.lean ====
section
/-!
DEFINITION. The eight ALU functions and every flag computation (R140 to R147), for operands of any width N: operands are
read as unsigned integers, the result is computed exactly, and narrowed to N bits at the end (R148).
-/

namespace Sys2Proof.Machine

/-- The eight operations, in the order of `op[5:3]` and of the group's sub-opcode (R102 a). -/
inductive AluOp where
  | add | or | adc | sbb | and | sub | xor | cmp
  deriving DecidableEq, Repr

/-- The five flags an ALU operation returns (R47). -/
structure StatusFlags where
  CF : Bool
  PF : Bool
  ZF : Bool
  SF : Bool
  OF : Bool
  deriving DecidableEq, Repr

/-- `parity8`: the byte has an even number of 1 bits (R10). -/
def parity8 (b : Byte) : Bool := ((List.range 8).filter (b.getLsbD ·)).length % 2 == 0

/-- The carry-in as a number. -/
def carryIn (c : Bool) : Int := if c then 1 else 0

/-- The wide result `w`, an exact integer, of the operation on the destination value `a`, the source value `b` and the
carry `c` = CF before the instruction (R141 to R146). -/
def aluWide {n : Nat} (op : AluOp) (a b : BitVec n) (c : Bool) : Int :=
  match op with
  | .add => (a.toNat : Int) + b.toNat
  | .adc => (a.toNat : Int) + b.toNat + carryIn c
  | .sub => (a.toNat : Int) - b.toNat
  | .cmp => (a.toNat : Int) - b.toNat
  | .sbb => (a.toNat : Int) - b.toNat - carryIn c
  | .and => (a &&& b).toNat
  | .or => (a ||| b).toNat
  | .xor => (a ^^^ b).toNat

/-- `res = u_N(w)` (R140). -/
def aluResult {n : Nat} (op : AluOp) (a b : BitVec n) (c : Bool) : BitVec n := BitVec.ofInt n (aluWide op a b c)

/-- OF: the addition rule for ADD and ADC (R141, R142), the subtraction rule for SUB, SBB and CMP (R143 to R145), 0 for
the logical operations (R146, conflict C3). -/
def aluOverflow {n : Nat} (op : AluOp) (a b res : BitVec n) : Bool :=
  match op with
  | .add | .adc => a.msb == b.msb && res.msb != a.msb
  | .sub | .sbb | .cmp => a.msb != b.msb && res.msb != a.msb
  | .and | .or | .xor => false

/-- The five flags of the operation: CF by "result < 0 OR result >= 2^(8 * operandSizeBytes)" on the wide result
(R141 to R146); ZF, SF and PF on the truncated result, PF on its low 8 bits (R140, conflict C4). -/
def aluFlags {n : Nat} (op : AluOp) (a b : BitVec n) (c : Bool) : StatusFlags :=
  let w := aluWide op a b c
  let res := aluResult op a b c
  { CF := decide (w < 0 ∨ (2 ^ n : Int) ≤ w)
    PF := parity8 (res.setWidth 8)
    ZF := res == 0
    SF := res.msb
    OF := aluOverflow op a b res }

/-- Whether the operation commits its result: "compare-class instructions compute flags without committing the result"
(R145). -/
def AluOp.commits : AluOp → Bool
  | .cmp => false
  | .add | .or | .adc | .sbb | .and | .sub | .xor => true

/-- The sixteen conditions `cond(cc)` of the conditional jumps (R300). -/
inductive Cond where
  | o | no | b | ae | e | ne | be | a | s | ns | p | np | l | ge | le | g
  deriving DecidableEq, Repr

/-- The condition on the flags as they stand before the instruction (R300). -/
def Cond.holds (f : Flags) : Cond → Bool
  | .o => f.OF
  | .no => !f.OF
  | .b => f.CF
  | .ae => !f.CF
  | .e => f.ZF
  | .ne => !f.ZF
  | .be => f.CF || f.ZF
  | .a => !f.CF && !f.ZF
  | .s => f.SF
  | .ns => !f.SF
  | .p => f.PF
  | .np => !f.PF
  | .l => f.SF != f.OF
  | .ge => f.SF == f.OF
  | .le => f.ZF || f.SF != f.OF
  | .g => !f.ZF && f.SF == f.OF

end Sys2Proof.Machine
end

