-- ==== Sys2Proof/Machine/Ops.lean ====
section
/-!
DEFINITION. The named operations over registers, flags, memory, the interrupt table, the stack, and the runs and
services in progress. An operation that can raise a fatal answers in `Except Fault`: the error carries no state, so an
instruction that raises one has written nothing (R348).
-/

namespace Sys2Proof.Machine

/-! ## General registers -/

/-- `GPR16[i]` (R31). -/
def Gpr.get (g : Gpr) : Reg16 → Word
  | .ax => g.ax | .cx => g.cx | .dx => g.dx | .bx => g.bx
  | .sp => g.sp | .bp => g.bp | .si => g.si | .di => g.di

/-- `GPR16[i] <- v` (R35). -/
def Gpr.set (g : Gpr) (r : Reg16) (v : Word) : Gpr :=
  match r with
  | .ax => { g with ax := v } | .cx => { g with cx := v } | .dx => { g with dx := v } | .bx => { g with bx := v }
  | .sp => { g with sp := v } | .bp => { g with bp := v } | .si => { g with si := v } | .di => { g with di := v }

/-- The 16-bit cell an 8-bit view lies in (R32). -/
def Reg8.cell : Reg8 → Reg16
  | .al => .ax | .cl => .cx | .dl => .dx | .bl => .bx
  | .ah => .ax | .ch => .cx | .dh => .dx | .bh => .bx

/-- Whether the view is the high byte of its cell (R32). -/
def Reg8.isHigh : Reg8 → Bool
  | .al => false | .cl => false | .dl => false | .bl => false
  | .ah => true | .ch => true | .dh => true | .bh => true

/-- `GPR8[i]` (R33). -/
def Gpr.get8 (g : Gpr) (r : Reg8) : Byte :=
  if Reg8.isHigh r then highByte (g.get (Reg8.cell r)) else lowByte (g.get (Reg8.cell r))

/-- A cell with one byte replaced, "mask-and-OR semantics" (R34). -/
def maskOr (old : Word) (high : Bool) (v : Byte) : Word :=
  if high then (old &&& 0x00FF#16) ||| (v.setWidth 16 <<< 8) else (old &&& 0xFF00#16) ||| v.setWidth 16

/-- `GPR8[i] <- v` (R34). -/
def Gpr.set8 (g : Gpr) (r : Reg8) (v : Byte) : Gpr :=
  g.set (Reg8.cell r) (maskOr (g.get (Reg8.cell r)) (Reg8.isHigh r) v)

/-- `SREG[i]` (R39). -/
def Segs.get (g : Segs) : SReg → Word
  | .es => g.es | .cs => g.cs | .ss => g.ss | .ds => g.ds

/-- `SREG[i] <- v` (R39). -/
def Segs.set (g : Segs) (r : SReg) (v : Word) : Segs :=
  match r with
  | .es => { g with es := v } | .cs => { g with cs := v } | .ss => { g with ss := v } | .ds => { g with ds := v }

/-! ## The state's registers, the accessors of R61 -/

/-- Read a 16-bit general register. -/
def State.reg16 (s : State) (r : Reg16) : Word := s.gpr.get r

/-- Write a 16-bit general register. -/
def State.setReg16 (s : State) (r : Reg16) (v : Word) : State := { s with gpr := s.gpr.set r v }

/-- Read an 8-bit view. -/
def State.reg8 (s : State) (r : Reg8) : Byte := s.gpr.get8 r

/-- Write an 8-bit view. -/
def State.setReg8 (s : State) (r : Reg8) (v : Byte) : State := { s with gpr := s.gpr.set8 r v }

/-- Read a segment register. -/
def State.seg (s : State) (r : SReg) : Word := s.sreg.get r

/-- Write a segment register. -/
def State.setSeg (s : State) (r : SReg) (v : Word) : State := { s with sreg := s.sreg.set r v }

/-- `FLAGS <- fl`: the five computed flags together; AF, TF, IF and DF are not written (R147). -/
def State.setStatus (s : State) (f : StatusFlags) : State :=
  { s with flags := { s.flags with CF := f.CF, PF := f.PF, ZF := f.ZF, SF := f.SF, OF := f.OF } }

/-- `ip <- target`, an exact integer (R43). -/
def State.setIp (s : State) (target : Int) : State := { s with ip := target }

/-- `ip <- ip + len` (R44). -/
def State.advance (s : State) (len : Nat) : State := s.setIp (s.ip + len)

/-- Replace memory. -/
def State.setMem (s : State) (m : Memory) : State := { s with mem := m }

/-! ## Memory -/

/-- The form of a memory list from the address `lo` up: addresses rising, below 2^20, no byte equal to what an unlisted
address reads as. -/
def Memory.wfFrom (lo : Nat) : Memory → Bool
  | [] => true
  | (a, b) :: rest => decide (lo ≤ a) && decide (a < Config.memSize) && b != Config.unlistedByte && Memory.wfFrom (a + 1) rest

/-- The canonical form, in which equal memories are equal lists. -/
def Memory.wf (m : Memory) : Bool := Memory.wfFrom 0 m

/-- `Mem[a]`. -/
def Memory.byte : Memory → Nat → Byte
  | [], _ => Config.unlistedByte
  | (k, v) :: rest, a => if k = a then v else Memory.byte rest a

/-- `Mem[a] <- v`, keeping the canonical form. -/
def Memory.setByte : Memory → Nat → Byte → Memory
  | [], a, v => if v = Config.unlistedByte then [] else [(a, v)]
  | (k, w) :: rest, a, v =>
    if a < k then (if v = Config.unlistedByte then (k, w) :: rest else (a, v) :: (k, w) :: rest)
    else if a = k then (if v = Config.unlistedByte then rest else (a, v) :: rest)
    else (k, w) :: Memory.setByte rest a v

/-- Write consecutive bytes from the address `a` up. -/
def Memory.setBytes (m : Memory) (a : Nat) : List Byte → Memory
  | [] => m
  | b :: bs => Memory.setBytes (Memory.setByte m a b) (a + 1) bs

/-- `Phys(seg, off) = seg * 16 + off`, not truncated (R72). -/
def phys (seg off : Word) : Nat := seg.toNat * 16 + off.toNat

/-- The range check of an n-byte access at P: legal when all its bytes are inside memory, else `AddressOutOfRange(P)`
(R76). Data addresses are never negative. -/
def checkRange (p n : Nat) : Except Fault Unit :=
  if p + n ≤ Config.memSize then .ok () else .error (.addressOutOfRange p)

/-- The word at P, little-endian (R78). -/
def Memory.word (m : Memory) (p : Nat) : Word := wordOfBytes (Memory.byte m p) (Memory.byte m (p + 1))

/-- The word written at P, little-endian (R79). -/
def Memory.setWord (m : Memory) (p : Nat) (v : Word) : Memory :=
  Memory.setByte (Memory.setByte m p (lowByte v)) (p + 1) (highByte v)

/-- `MemRead(P, 1)` (R78). -/
def State.read8 (s : State) (p : Nat) : Except Fault Byte := do
  checkRange p 1
  return Memory.byte s.mem p

/-- `MemRead(P, 2)` (R78). -/
def State.read16 (s : State) (p : Nat) : Except Fault Word := do
  checkRange p 2
  return Memory.word s.mem p

/-- `MemRead(P, 4)` (R78): the word at P in bits 15..0, the word at P + 2 in bits 31..16. -/
def State.read32 (s : State) (p : Nat) : Except Fault DWord := do
  checkRange p 4
  return Memory.word s.mem (p + 2) ++ Memory.word s.mem p

/-- `MemWrite(P, 1, v)` (R79). -/
def State.write8 (s : State) (p : Nat) (v : Byte) : Except Fault State := do
  checkRange p 1
  return s.setMem (Memory.setByte s.mem p v)

/-- `MemWrite(P, 2, v)` (R79). -/
def State.write16 (s : State) (p : Nat) (v : Word) : Except Fault State := do
  checkRange p 2
  return s.setMem (Memory.setWord s.mem p v)

/-- `GetInDs(off) = MemRead(Phys(DS, off), 1)` (R62). -/
def State.getInDs (s : State) (off : Word) : Except Fault Byte := s.read8 (phys (s.seg .ds) off)

/-! ## The interrupt table -/

/-- The service registered for a vector, none when it is unregistered (R54). -/
def IntTable.lookup : IntTable → Byte → Option Service
  | [], _ => none
  | (k, svc) :: rest, v => if k = v then some svc else IntTable.lookup rest v

/-- `SetInterruptHandler(v, svc)`, keeping the vectors strictly rising (R63). -/
def IntTable.register : IntTable → Byte → Service → IntTable
  | [], v, svc => [(v, svc)]
  | (k, old) :: rest, v, svc =>
    if v < k then (v, svc) :: (k, old) :: rest
    else if v = k then (v, svc) :: rest
    else (k, old) :: IntTable.register rest v svc

/-- The form of a table whose vectors are at least `lo`: strictly rising. -/
def IntTable.wfFrom (lo : Nat) : IntTable → Bool
  | [] => true
  | (k, _) :: rest => decide (lo ≤ k.toNat) && IntTable.wfFrom (k.toNat + 1) rest

/-- The canonical form, in which equal tables are equal lists. -/
def IntTable.wf (t : IntTable) : Bool := IntTable.wfFrom 0 t

/-! ## The stack engine -/

/-- The physical address of the word at `SS:sp` (R75, R270). -/
def State.stackAddr (s : State) (sp : Word) : Nat := phys (s.seg .ss) sp

/-- `PushValue(v)`: SP moves down by 2 modulo 2^16, then the word is written at `SS:SP` (R270, R271). -/
def State.push (s : State) (v : Word) : Except Fault State :=
  let sp := s.reg16 .sp - 2
  (s.setReg16 .sp sp).write16 (s.stackAddr sp) v

/-- `PopValue16()`: the word is read at `SS:SP`, then SP moves up by 2 modulo 2^16 (R270, R271). -/
def State.pop (s : State) : Except Fault (Word × State) := do
  let v ← s.read16 (s.stackAddr (s.reg16 .sp))
  return (v, s.setReg16 .sp (s.reg16 .sp + 2))

/-- The ordered bulk push (R273). -/
def State.pushAll (s : State) : List Word → Except Fault State
  | [] => .ok s
  | v :: vs => do
    let s' ← s.push v
    s'.pushAll vs

/-- The word of slot `k` above `SS:base`, offsets wrapping modulo 2^16 (R284). -/
def State.stackSlot (s : State) (base : Word) (k : Nat) : Except Fault Word :=
  s.read16 (s.stackAddr (base + BitVec.ofNat 16 (2 * k)))

/-! ## Runs -/

/-- `Execute(ipStart, ipEnd)`: sets `ip` and nothing else of the architectural state (R60, R382). -/
def State.startRun (s : State) (ipStart ipEnd : Int) : State :=
  { s with ip := ipStart, frames := .run ipEnd :: s.frames }

/-- The end of every enclosing run with one result (R358); `ip` keeps its value (D28). -/
def State.endAll (s : State) (r : RunResult) : State := { s with frames := [], result := some r }

/-- `stop Completed`: the innermost run ends. An outermost run returns the result to the host; a nested one lets the
service that started it go on (R351, R358). -/
def State.completeRun (s : State) : State :=
  match s.frames with
  | _ :: f :: fs => { s with frames := f :: fs }
  | _ => s.endAll .completed

/-- Whether the step of the state takes a call of the host: no run is in progress, or a callback runs (R61, R355). -/
def State.hostTurn (s : State) : Bool :=
  match s.frames with
  | [] => true
  | .service _ (.callback _) :: _ => true
  | _ => false

/-- `raise Fatal(reason)`: what the host finds after a step that stopped with a fatal at `s`. Every run in progress has
ended with that reason and everything else is preserved (R348, R350, R358). Where a call of the host raised the fatal,
that call has been made and the next one follows, so a later `Execute` starts (log 8). Between runs there is no run to
end, and no result is recorded (log 14). -/
def State.endFatal (s : State) (reason : Fault) : State :=
  { s with
    frames := []
    result := if s.frames = [] then s.result else some (.fatal reason)
    host := if s.hostTurn then s.host.tail else s.host }

/-! ## Calling a service and returning from it -/

/-- Where a service begins. -/
def Service.start : Service → Activation
  | .dos21 => .dosEntry
  | .callback id => .callback id

/-- INT's call: the service starts; nothing is saved in a register or on the stack, and `ip` keeps the address of the
INT (R330, R332). -/
def State.enterService (s : State) (svc : Service) : State :=
  { s with frames := .service s.ip svc.start :: s.frames }

/-- The service's `Continue`: its INT at `intIp` completes with `ip` = its own address + 2, whatever nested runs left in
`ip` (R330, D17). -/
def State.resumeAfterInt (s : State) (intIp : Int) : State :=
  { s with ip := intIp + 2, frames := s.frames.tail }

/-- The service's `Exit`: every enclosing run ends `Exited` and no enclosing INT advances `ip` (R330, R358, R364). -/
def State.exitRuns (s : State) : State := s.endAll .exited

/-- An operation's answer as the outcome of a step. -/
def toOutcome (r : Except Fault State) : Host.Outcome State Fault Refusal :=
  match r with
  | .ok s => .next s
  | .error f => .fault f

end Sys2Proof.Machine
end

