-- ==== Sys2Proof/Machine/Operands.lean ====
section
/-!
DEFINITION. Every operand form: the effective-address table, the segment of a memory operand, reading and writing the
rm side, and the operand executor (R106, R150, R151, R74).
-/

namespace Sys2Proof.Machine

/-- The value of a base expression, the sum of the registers it names (R106); the sum wraps modulo 2^16 (R73). -/
def baseValue (g : Gpr) : Base → Word
  | .bxSi => g.bx + g.si
  | .bxDi => g.bx + g.di
  | .bpSi => g.bp + g.si
  | .bpDi => g.bp + g.di
  | .si => g.si
  | .di => g.di
  | .bp => g.bp
  | .bx => g.bx

/-- The effective address, a 16-bit offset (R73, R106). -/
def effAddr (g : Gpr) : MemForm → Word
  | .direct a => a
  | .base b => baseValue g b
  | .disp8 b d => baseValue g b + sext16 d
  | .disp16 b d => baseValue g b + d

/-- Whether a base expression contains BP. -/
def Base.hasBp : Base → Bool
  | .bpSi | .bpDi | .bp => true
  | .bxSi | .bxDi | .si | .di | .bx => false

/-- The segment of a memory operand: SS when its base expression contains BP, else DS (R74). -/
def operandSeg : MemForm → SReg
  | .direct _ => .ds
  | .base b => if Base.hasBp b then .ss else .ds
  | .disp8 b _ => if Base.hasBp b then .ss else .ds
  | .disp16 b _ => if Base.hasBp b then .ss else .ds

/-- `P = Phys(SREG[seg], EA)` (R74). -/
def State.operandAddr (s : State) (m : MemForm) : Nat := phys (s.seg (operandSeg m)) (effAddr s.gpr m)

/-- Read `E8` (R151). -/
def State.readRM8 (s : State) : RM Reg8 → Except Fault Byte
  | .reg r => .ok (s.reg8 r)
  | .mem m => s.read8 (s.operandAddr m)

/-- Read `E16` (R151). -/
def State.readRM16 (s : State) : RM Reg16 → Except Fault Word
  | .reg r => .ok (s.reg16 r)
  | .mem m => s.read16 (s.operandAddr m)

/-- `E8 <- v` (R151). -/
def State.writeRM8 (s : State) (rm : RM Reg8) (v : Byte) : Except Fault State :=
  match rm with
  | .reg r => .ok (s.setReg8 r v)
  | .mem m => s.write8 (s.operandAddr m) v

/-- `E16 <- v` (R151). -/
def State.writeRM16 (s : State) (rm : RM Reg16) (v : Word) : Except Fault State :=
  match rm with
  | .reg r => .ok (s.setReg16 r v)
  | .mem m => s.write16 (s.operandAddr m) v

/-- The status flags a functor returns, written or not (`setFlags`, R150). -/
def State.setStatus? (s : State) : Option StatusFlags → State
  | none => s
  | some f => s.setStatus f

/-- The rm-side-first executor, rmFirst = false of R150: `dst` is the rm side, `src` the register or immediate value.
`res` is the functor, `fl` its flags (none: setFlags = false), `commit` is useResult. Both operands are read before
anything is written (R152, R387), the result is written before the flags, and `ip` last (R92, R147). -/
def State.execToRM {n : Nat} (s : State) (dst : Except Fault (BitVec n)) (src : BitVec n)
    (write : BitVec n → Except Fault State) (res : BitVec n → BitVec n → BitVec n)
    (fl : BitVec n → BitVec n → Option StatusFlags) (commit : Bool) (len : Nat) : Except Fault State := do
  let d ← dst
  let s' ← if commit then write (res d src) else pure s
  return (s'.setStatus? (fl d src)).advance len

/-- The register-first executor, rmFirst = true of R150: `dst` is the register, `src` the rm side. -/
def State.execToReg {n : Nat} (s : State) (dst : BitVec n) (src : Except Fault (BitVec n))
    (write : BitVec n → State) (res : BitVec n → BitVec n → BitVec n)
    (fl : BitVec n → BitVec n → Option StatusFlags) (commit : Bool) (len : Nat) : Except Fault State := do
  let v ← src
  let s' := if commit then write (res dst v) else s
  return (s'.setStatus? (fl dst v)).advance len

end Sys2Proof.Machine
end

