-- ==== Sys2Proof/Machine/Alu.lean ====
section
/-!
DEFINITION. The 48 ALU instructions of `40_alu.md`: eight operations in the forms r/m8,r8; r/m16,r16; r8,r/m8; r16,r/m16;
AL,imm8; AX,imm16 (R153, R160 to R208).
-/

namespace Sys2Proof.Machine


/-- An ALU operation with an 8-bit rm side as destination (R150, R220): `src` is the register or immediate value. -/
def aluToRM8 (op : AluOp) (dst : RM Reg8) (src : Byte) (len : Nat) (s : State) : Except Fault State :=
  s.execToRM (s.readRM8 dst) src (s.writeRM8 dst) (fun a b => aluResult op a b s.flags.CF)
    (fun a b => some (aluFlags op a b s.flags.CF)) op.commits len

/-- An ALU operation with a 16-bit rm side as destination (R150, R220). -/
def aluToRM16 (op : AluOp) (dst : RM Reg16) (src : Word) (len : Nat) (s : State) : Except Fault State :=
  s.execToRM (s.readRM16 dst) src (s.writeRM16 dst) (fun a b => aluResult op a b s.flags.CF)
    (fun a b => some (aluFlags op a b s.flags.CF)) op.commits len

/-- An ALU operation with an 8-bit register as destination and the rm side as source (R150). -/
def aluToReg8 (op : AluOp) (dst : Reg8) (src : RM Reg8) (s : State) : Except Fault State :=
  s.execToReg (s.reg8 dst) (s.readRM8 src) (s.setReg8 dst) (fun a b => aluResult op a b s.flags.CF)
    (fun a b => some (aluFlags op a b s.flags.CF)) op.commits src.len

/-- An ALU operation with a 16-bit register as destination and the rm side as source (R150). -/
def aluToReg16 (op : AluOp) (dst : Reg16) (src : RM Reg16) (s : State) : Except Fault State :=
  s.execToReg (s.reg16 dst) (s.readRM16 src) (s.setReg16 dst) (fun a b => aluResult op a b s.flags.CF)
    (fun a b => some (aluFlags op a b s.flags.CF)) op.commits src.len

/-- The accumulator form on AL: no ModRM byte, length 2 (R160). -/
def aluToAl (op : AluOp) (imm : Byte) (s : State) : Except Fault State := aluToRM8 op (.reg .al) imm 2 s

/-- The accumulator form on AX: no ModRM byte, length 3 (R160). -/
def aluToAx (op : AluOp) (imm : Word) (s : State) : Except Fault State := aluToRM16 op (.reg .ax) imm 3 s

/-- `ADD r/m8, r8` (R161). -/
def execAddRm8R8 (dst : RM Reg8) (src : Reg8) (s : State) : Host.Outcome State Fault Refusal :=
  toOutcome (aluToRM8 .add dst (s.reg8 src) dst.len s)

/-- `ADD r/m16, r16` (R162). -/
def execAddRm16R16 (dst : RM Reg16) (src : Reg16) (s : State) : Host.Outcome State Fault Refusal :=
  toOutcome (aluToRM16 .add dst (s.reg16 src) dst.len s)

/-- `ADD r8, r/m8` (R163). -/
def execAddR8Rm8 (dst : Reg8) (src : RM Reg8) (s : State) : Host.Outcome State Fault Refusal :=
  toOutcome (aluToReg8 .add dst src s)

/-- `ADD r16, r/m16` (R164). -/
def execAddR16Rm16 (dst : Reg16) (src : RM Reg16) (s : State) : Host.Outcome State Fault Refusal :=
  toOutcome (aluToReg16 .add dst src s)

/-- `ADD AL, imm8` (R165). -/
def execAddAlImm8 (imm : Byte) (s : State) : Host.Outcome State Fault Refusal :=
  toOutcome (aluToAl .add imm s)

/-- `ADD AX, imm16` (R166). -/
def execAddAxImm16 (imm : Word) (s : State) : Host.Outcome State Fault Refusal :=
  toOutcome (aluToAx .add imm s)

/-- `OR r/m8, r8` (R167). -/
def execOrRm8R8 (dst : RM Reg8) (src : Reg8) (s : State) : Host.Outcome State Fault Refusal :=
  toOutcome (aluToRM8 .or dst (s.reg8 src) dst.len s)

/-- `OR r/m16, r16` (R168). -/
def execOrRm16R16 (dst : RM Reg16) (src : Reg16) (s : State) : Host.Outcome State Fault Refusal :=
  toOutcome (aluToRM16 .or dst (s.reg16 src) dst.len s)

/-- `OR r8, r/m8` (R169). -/
def execOrR8Rm8 (dst : Reg8) (src : RM Reg8) (s : State) : Host.Outcome State Fault Refusal :=
  toOutcome (aluToReg8 .or dst src s)

/-- `OR r16, r/m16` (R170). -/
def execOrR16Rm16 (dst : Reg16) (src : RM Reg16) (s : State) : Host.Outcome State Fault Refusal :=
  toOutcome (aluToReg16 .or dst src s)

/-- `OR AL, imm8` (R171). -/
def execOrAlImm8 (imm : Byte) (s : State) : Host.Outcome State Fault Refusal :=
  toOutcome (aluToAl .or imm s)

/-- `OR AX, imm16` (R172). -/
def execOrAxImm16 (imm : Word) (s : State) : Host.Outcome State Fault Refusal :=
  toOutcome (aluToAx .or imm s)

/-- `ADC r/m8, r8` (R173). -/
def execAdcRm8R8 (dst : RM Reg8) (src : Reg8) (s : State) : Host.Outcome State Fault Refusal :=
  toOutcome (aluToRM8 .adc dst (s.reg8 src) dst.len s)

/-- `ADC r/m16, r16` (R174). -/
def execAdcRm16R16 (dst : RM Reg16) (src : Reg16) (s : State) : Host.Outcome State Fault Refusal :=
  toOutcome (aluToRM16 .adc dst (s.reg16 src) dst.len s)

/-- `ADC r8, r/m8` (R175). -/
def execAdcR8Rm8 (dst : Reg8) (src : RM Reg8) (s : State) : Host.Outcome State Fault Refusal :=
  toOutcome (aluToReg8 .adc dst src s)

/-- `ADC r16, r/m16` (R176). -/
def execAdcR16Rm16 (dst : Reg16) (src : RM Reg16) (s : State) : Host.Outcome State Fault Refusal :=
  toOutcome (aluToReg16 .adc dst src s)

/-- `ADC AL, imm8` (R177). -/
def execAdcAlImm8 (imm : Byte) (s : State) : Host.Outcome State Fault Refusal :=
  toOutcome (aluToAl .adc imm s)

/-- `ADC AX, imm16` (R178). -/
def execAdcAxImm16 (imm : Word) (s : State) : Host.Outcome State Fault Refusal :=
  toOutcome (aluToAx .adc imm s)

/-- `SBB r/m8, r8` (R179). -/
def execSbbRm8R8 (dst : RM Reg8) (src : Reg8) (s : State) : Host.Outcome State Fault Refusal :=
  toOutcome (aluToRM8 .sbb dst (s.reg8 src) dst.len s)

/-- `SBB r/m16, r16` (R180). -/
def execSbbRm16R16 (dst : RM Reg16) (src : Reg16) (s : State) : Host.Outcome State Fault Refusal :=
  toOutcome (aluToRM16 .sbb dst (s.reg16 src) dst.len s)

/-- `SBB r8, r/m8` (R181). -/
def execSbbR8Rm8 (dst : Reg8) (src : RM Reg8) (s : State) : Host.Outcome State Fault Refusal :=
  toOutcome (aluToReg8 .sbb dst src s)

/-- `SBB r16, r/m16` (R182). -/
def execSbbR16Rm16 (dst : Reg16) (src : RM Reg16) (s : State) : Host.Outcome State Fault Refusal :=
  toOutcome (aluToReg16 .sbb dst src s)

/-- `SBB AL, imm8` (R183). -/
def execSbbAlImm8 (imm : Byte) (s : State) : Host.Outcome State Fault Refusal :=
  toOutcome (aluToAl .sbb imm s)

/-- `SBB AX, imm16` (R184). -/
def execSbbAxImm16 (imm : Word) (s : State) : Host.Outcome State Fault Refusal :=
  toOutcome (aluToAx .sbb imm s)

/-- `AND r/m8, r8` (R185). -/
def execAndRm8R8 (dst : RM Reg8) (src : Reg8) (s : State) : Host.Outcome State Fault Refusal :=
  toOutcome (aluToRM8 .and dst (s.reg8 src) dst.len s)

/-- `AND r/m16, r16` (R186). -/
def execAndRm16R16 (dst : RM Reg16) (src : Reg16) (s : State) : Host.Outcome State Fault Refusal :=
  toOutcome (aluToRM16 .and dst (s.reg16 src) dst.len s)

/-- `AND r8, r/m8` (R187). -/
def execAndR8Rm8 (dst : Reg8) (src : RM Reg8) (s : State) : Host.Outcome State Fault Refusal :=
  toOutcome (aluToReg8 .and dst src s)

/-- `AND r16, r/m16` (R188). -/
def execAndR16Rm16 (dst : Reg16) (src : RM Reg16) (s : State) : Host.Outcome State Fault Refusal :=
  toOutcome (aluToReg16 .and dst src s)

/-- `AND AL, imm8` (R189). -/
def execAndAlImm8 (imm : Byte) (s : State) : Host.Outcome State Fault Refusal :=
  toOutcome (aluToAl .and imm s)

/-- `AND AX, imm16` (R190). -/
def execAndAxImm16 (imm : Word) (s : State) : Host.Outcome State Fault Refusal :=
  toOutcome (aluToAx .and imm s)

/-- `SUB r/m8, r8` (R191). -/
def execSubRm8R8 (dst : RM Reg8) (src : Reg8) (s : State) : Host.Outcome State Fault Refusal :=
  toOutcome (aluToRM8 .sub dst (s.reg8 src) dst.len s)

/-- `SUB r/m16, r16` (R192). -/
def execSubRm16R16 (dst : RM Reg16) (src : Reg16) (s : State) : Host.Outcome State Fault Refusal :=
  toOutcome (aluToRM16 .sub dst (s.reg16 src) dst.len s)

/-- `SUB r8, r/m8` (R193). -/
def execSubR8Rm8 (dst : Reg8) (src : RM Reg8) (s : State) : Host.Outcome State Fault Refusal :=
  toOutcome (aluToReg8 .sub dst src s)

/-- `SUB r16, r/m16` (R194). -/
def execSubR16Rm16 (dst : Reg16) (src : RM Reg16) (s : State) : Host.Outcome State Fault Refusal :=
  toOutcome (aluToReg16 .sub dst src s)

/-- `SUB AL, imm8` (R195). -/
def execSubAlImm8 (imm : Byte) (s : State) : Host.Outcome State Fault Refusal :=
  toOutcome (aluToAl .sub imm s)

/-- `SUB AX, imm16` (R196). -/
def execSubAxImm16 (imm : Word) (s : State) : Host.Outcome State Fault Refusal :=
  toOutcome (aluToAx .sub imm s)

/-- `XOR r/m8, r8` (R197). -/
def execXorRm8R8 (dst : RM Reg8) (src : Reg8) (s : State) : Host.Outcome State Fault Refusal :=
  toOutcome (aluToRM8 .xor dst (s.reg8 src) dst.len s)

/-- `XOR r/m16, r16` (R198). -/
def execXorRm16R16 (dst : RM Reg16) (src : Reg16) (s : State) : Host.Outcome State Fault Refusal :=
  toOutcome (aluToRM16 .xor dst (s.reg16 src) dst.len s)

/-- `XOR r8, r/m8` (R199). -/
def execXorR8Rm8 (dst : Reg8) (src : RM Reg8) (s : State) : Host.Outcome State Fault Refusal :=
  toOutcome (aluToReg8 .xor dst src s)

/-- `XOR r16, r/m16` (R200). -/
def execXorR16Rm16 (dst : Reg16) (src : RM Reg16) (s : State) : Host.Outcome State Fault Refusal :=
  toOutcome (aluToReg16 .xor dst src s)

/-- `XOR AL, imm8` (R201). -/
def execXorAlImm8 (imm : Byte) (s : State) : Host.Outcome State Fault Refusal :=
  toOutcome (aluToAl .xor imm s)

/-- `XOR AX, imm16` (R202). -/
def execXorAxImm16 (imm : Word) (s : State) : Host.Outcome State Fault Refusal :=
  toOutcome (aluToAx .xor imm s)

/-- `CMP r/m8, r8` (R203). -/
def execCmpRm8R8 (dst : RM Reg8) (src : Reg8) (s : State) : Host.Outcome State Fault Refusal :=
  toOutcome (aluToRM8 .cmp dst (s.reg8 src) dst.len s)

/-- `CMP r/m16, r16` (R204). -/
def execCmpRm16R16 (dst : RM Reg16) (src : Reg16) (s : State) : Host.Outcome State Fault Refusal :=
  toOutcome (aluToRM16 .cmp dst (s.reg16 src) dst.len s)

/-- `CMP r8, r/m8` (R205). -/
def execCmpR8Rm8 (dst : Reg8) (src : RM Reg8) (s : State) : Host.Outcome State Fault Refusal :=
  toOutcome (aluToReg8 .cmp dst src s)

/-- `CMP r16, r/m16` (R206). -/
def execCmpR16Rm16 (dst : Reg16) (src : RM Reg16) (s : State) : Host.Outcome State Fault Refusal :=
  toOutcome (aluToReg16 .cmp dst src s)

/-- `CMP AL, imm8` (R207). -/
def execCmpAlImm8 (imm : Byte) (s : State) : Host.Outcome State Fault Refusal :=
  toOutcome (aluToAl .cmp imm s)

/-- `CMP AX, imm16` (R208). -/
def execCmpAxImm16 (imm : Word) (s : State) : Host.Outcome State Fault Refusal :=
  toOutcome (aluToAx .cmp imm s)

end Sys2Proof.Machine
end

