-- ==== Sys2Proof/Machine/AluGroup.lean ====
section
/-!
DEFINITION. The 24 instructions of the ALU immediate group 80h, 81h, 83h (R220 to R244): the executor of the ALU
instructions with the immediate in place of the register operand, one or two bytes longer.
-/

namespace Sys2Proof.Machine


/-- `ADD r/m8, imm8` (R221). -/
def execAddRm8Imm8 (dst : RM Reg8) (imm : Byte) (s : State) : Host.Outcome State Fault Refusal :=
  toOutcome (aluToRM8 .add dst imm (dst.len + 1) s)

/-- `OR r/m8, imm8` (R222). -/
def execOrRm8Imm8 (dst : RM Reg8) (imm : Byte) (s : State) : Host.Outcome State Fault Refusal :=
  toOutcome (aluToRM8 .or dst imm (dst.len + 1) s)

/-- `ADC r/m8, imm8` (R223). -/
def execAdcRm8Imm8 (dst : RM Reg8) (imm : Byte) (s : State) : Host.Outcome State Fault Refusal :=
  toOutcome (aluToRM8 .adc dst imm (dst.len + 1) s)

/-- `SBB r/m8, imm8` (R224). -/
def execSbbRm8Imm8 (dst : RM Reg8) (imm : Byte) (s : State) : Host.Outcome State Fault Refusal :=
  toOutcome (aluToRM8 .sbb dst imm (dst.len + 1) s)

/-- `AND r/m8, imm8` (R225). -/
def execAndRm8Imm8 (dst : RM Reg8) (imm : Byte) (s : State) : Host.Outcome State Fault Refusal :=
  toOutcome (aluToRM8 .and dst imm (dst.len + 1) s)

/-- `SUB r/m8, imm8` (R226). -/
def execSubRm8Imm8 (dst : RM Reg8) (imm : Byte) (s : State) : Host.Outcome State Fault Refusal :=
  toOutcome (aluToRM8 .sub dst imm (dst.len + 1) s)

/-- `XOR r/m8, imm8` (R227). -/
def execXorRm8Imm8 (dst : RM Reg8) (imm : Byte) (s : State) : Host.Outcome State Fault Refusal :=
  toOutcome (aluToRM8 .xor dst imm (dst.len + 1) s)

/-- `CMP r/m8, imm8` (R228). -/
def execCmpRm8Imm8 (dst : RM Reg8) (imm : Byte) (s : State) : Host.Outcome State Fault Refusal :=
  toOutcome (aluToRM8 .cmp dst imm (dst.len + 1) s)

/-- `ADD r/m16, imm16` (R229). -/
def execAddRm16Imm16 (dst : RM Reg16) (imm : Word) (s : State) : Host.Outcome State Fault Refusal :=
  toOutcome (aluToRM16 .add dst imm (dst.len + 2) s)

/-- `OR r/m16, imm16` (R230). -/
def execOrRm16Imm16 (dst : RM Reg16) (imm : Word) (s : State) : Host.Outcome State Fault Refusal :=
  toOutcome (aluToRM16 .or dst imm (dst.len + 2) s)

/-- `ADC r/m16, imm16` (R231). -/
def execAdcRm16Imm16 (dst : RM Reg16) (imm : Word) (s : State) : Host.Outcome State Fault Refusal :=
  toOutcome (aluToRM16 .adc dst imm (dst.len + 2) s)

/-- `SBB r/m16, imm16` (R232). -/
def execSbbRm16Imm16 (dst : RM Reg16) (imm : Word) (s : State) : Host.Outcome State Fault Refusal :=
  toOutcome (aluToRM16 .sbb dst imm (dst.len + 2) s)

/-- `AND r/m16, imm16` (R233). -/
def execAndRm16Imm16 (dst : RM Reg16) (imm : Word) (s : State) : Host.Outcome State Fault Refusal :=
  toOutcome (aluToRM16 .and dst imm (dst.len + 2) s)

/-- `SUB r/m16, imm16` (R234). -/
def execSubRm16Imm16 (dst : RM Reg16) (imm : Word) (s : State) : Host.Outcome State Fault Refusal :=
  toOutcome (aluToRM16 .sub dst imm (dst.len + 2) s)

/-- `XOR r/m16, imm16` (R235). -/
def execXorRm16Imm16 (dst : RM Reg16) (imm : Word) (s : State) : Host.Outcome State Fault Refusal :=
  toOutcome (aluToRM16 .xor dst imm (dst.len + 2) s)

/-- `CMP r/m16, imm16` (R236). -/
def execCmpRm16Imm16 (dst : RM Reg16) (imm : Word) (s : State) : Host.Outcome State Fault Refusal :=
  toOutcome (aluToRM16 .cmp dst imm (dst.len + 2) s)

/-- `ADD r/m16, sign-extended imm8` (R237). -/
def execAddRm16SImm8 (dst : RM Reg16) (imm : Byte) (s : State) : Host.Outcome State Fault Refusal :=
  toOutcome (aluToRM16 .add dst (sext16 imm) (dst.len + 1) s)

/-- `OR r/m16, sign-extended imm8` (R238). -/
def execOrRm16SImm8 (dst : RM Reg16) (imm : Byte) (s : State) : Host.Outcome State Fault Refusal :=
  toOutcome (aluToRM16 .or dst (sext16 imm) (dst.len + 1) s)

/-- `ADC r/m16, sign-extended imm8` (R239). -/
def execAdcRm16SImm8 (dst : RM Reg16) (imm : Byte) (s : State) : Host.Outcome State Fault Refusal :=
  toOutcome (aluToRM16 .adc dst (sext16 imm) (dst.len + 1) s)

/-- `SBB r/m16, sign-extended imm8` (R240). -/
def execSbbRm16SImm8 (dst : RM Reg16) (imm : Byte) (s : State) : Host.Outcome State Fault Refusal :=
  toOutcome (aluToRM16 .sbb dst (sext16 imm) (dst.len + 1) s)

/-- `AND r/m16, sign-extended imm8` (R241). -/
def execAndRm16SImm8 (dst : RM Reg16) (imm : Byte) (s : State) : Host.Outcome State Fault Refusal :=
  toOutcome (aluToRM16 .and dst (sext16 imm) (dst.len + 1) s)

/-- `SUB r/m16, sign-extended imm8` (R242). -/
def execSubRm16SImm8 (dst : RM Reg16) (imm : Byte) (s : State) : Host.Outcome State Fault Refusal :=
  toOutcome (aluToRM16 .sub dst (sext16 imm) (dst.len + 1) s)

/-- `XOR r/m16, sign-extended imm8` (R243). -/
def execXorRm16SImm8 (dst : RM Reg16) (imm : Byte) (s : State) : Host.Outcome State Fault Refusal :=
  toOutcome (aluToRM16 .xor dst (sext16 imm) (dst.len + 1) s)

/-- `CMP r/m16, sign-extended imm8` (R244). -/
def execCmpRm16SImm8 (dst : RM Reg16) (imm : Byte) (s : State) : Host.Outcome State Fault Refusal :=
  toOutcome (aluToRM16 .cmp dst (sext16 imm) (dst.len + 1) s)

end Sys2Proof.Machine
end

