-- ==== Sys2Proof/Machine/Interrupt.lean ====
section
/-!
DEFINITION. INT imm8 (R330): the only way a program reaches the host.
-/

namespace Sys2Proof.Machine


/-- `INT imm8` (R330): the vector is looked up when INT executes; an unregistered one is fatal. A
registered one calls its service once; `ip` stays at the INT until the service returns (`State.resumeAfterInt`), and
the acts of the service are the steps in between (log 6). -/
def execInt (vector : Byte) (s : State) : Host.Outcome State Fault Refusal :=
  match IntTable.lookup s.intTable vector with
  | none => .fault (.unregisteredVector vector s.ip)
  | some svc => .next (s.enterService svc)

end Sys2Proof.Machine
end

