-- ==== Sys2Proof/Machine/Jump.lean ====
section
/-!
DEFINITION. The sixteen conditional jumps of `44_jcc.md` (R300 to R317). They write `ip` only.
-/

namespace Sys2Proof.Machine


/-- `if cond then ip <- ip + s_8(disp) + 2 else ip <- ip + 2`, an exact integer sum (R301). -/
def jumpIf (c : Cond) (disp : Byte) (s : State) : State :=
  if c.holds s.flags then s.setIp (s.ip + disp.toInt + 2) else s.advance 2

/-- `JO rel8` (R302). -/
def execJo (disp : Byte) (s : State) : Host.Outcome State Fault Refusal :=
  .next (jumpIf .o disp s)

/-- `JNO rel8` (R303). -/
def execJno (disp : Byte) (s : State) : Host.Outcome State Fault Refusal :=
  .next (jumpIf .no disp s)

/-- `JB rel8` (R304). -/
def execJb (disp : Byte) (s : State) : Host.Outcome State Fault Refusal :=
  .next (jumpIf .b disp s)

/-- `JAE rel8` (R305). -/
def execJae (disp : Byte) (s : State) : Host.Outcome State Fault Refusal :=
  .next (jumpIf .ae disp s)

/-- `JE rel8` (R306). -/
def execJe (disp : Byte) (s : State) : Host.Outcome State Fault Refusal :=
  .next (jumpIf .e disp s)

/-- `JNE rel8` (R307). -/
def execJne (disp : Byte) (s : State) : Host.Outcome State Fault Refusal :=
  .next (jumpIf .ne disp s)

/-- `JBE rel8` (R308). -/
def execJbe (disp : Byte) (s : State) : Host.Outcome State Fault Refusal :=
  .next (jumpIf .be disp s)

/-- `JA rel8` (R309). -/
def execJa (disp : Byte) (s : State) : Host.Outcome State Fault Refusal :=
  .next (jumpIf .a disp s)

/-- `JS rel8` (R310). -/
def execJs (disp : Byte) (s : State) : Host.Outcome State Fault Refusal :=
  .next (jumpIf .s disp s)

/-- `JNS rel8` (R311). -/
def execJns (disp : Byte) (s : State) : Host.Outcome State Fault Refusal :=
  .next (jumpIf .ns disp s)

/-- `JP rel8` (R312). -/
def execJp (disp : Byte) (s : State) : Host.Outcome State Fault Refusal :=
  .next (jumpIf .p disp s)

/-- `JNP rel8` (R313). -/
def execJnp (disp : Byte) (s : State) : Host.Outcome State Fault Refusal :=
  .next (jumpIf .np disp s)

/-- `JL rel8` (R314). -/
def execJl (disp : Byte) (s : State) : Host.Outcome State Fault Refusal :=
  .next (jumpIf .l disp s)

/-- `JGE rel8` (R315). -/
def execJge (disp : Byte) (s : State) : Host.Outcome State Fault Refusal :=
  .next (jumpIf .ge disp s)

/-- `JLE rel8` (R316). -/
def execJle (disp : Byte) (s : State) : Host.Outcome State Fault Refusal :=
  .next (jumpIf .le disp s)

/-- `JG rel8` (R317). -/
def execJg (disp : Byte) (s : State) : Host.Outcome State Fault Refusal :=
  .next (jumpIf .g disp s)

end Sys2Proof.Machine
end

