-- ==== Sys2Proof/Machine/Move.lean ====
section
/-!
DEFINITION. The moves and far-pointer loads of `42_move.md` (R250 to R259). None of them writes a flag (R50).
-/

namespace Sys2Proof.Machine


/-- MOV with an 8-bit rm side as destination: the memory operand is read before it is written (R252, D29). -/
def movToRM8 (dst : RM Reg8) (src : Byte) (len : Nat) (s : State) : Except Fault State :=
  s.execToRM (s.readRM8 dst) src (s.writeRM8 dst) (fun _ b => b) (fun _ _ => none) true len

/-- MOV with a 16-bit rm side as destination: the memory operand is read before it is written (R253, D29). -/
def movToRM16 (dst : RM Reg16) (src : Word) (len : Nat) (s : State) : Except Fault State :=
  s.execToRM (s.readRM16 dst) src (s.writeRM16 dst) (fun _ b => b) (fun _ _ => none) true len

/-- A far-pointer load: the low word of the doubleword at P goes to the register, the high word to the segment
register; P is formed before either is written (R258, R259, R387). -/
def loadFar (sr : SReg) (dst : Reg16) (src : MemForm) (s : State) : Except Fault State := do
  let v ← s.read32 (s.operandAddr src)
  return ((s.setReg16 dst (v.extractLsb' 0 16)).setSeg sr (v.extractLsb' 16 16)).advance src.len

/-- `MOV r8, imm8` (R250). -/
def execMovR8Imm8 (dst : Reg8) (imm : Byte) (s : State) : Host.Outcome State Fault Refusal :=
  .next ((s.setReg8 dst imm).advance 2)

/-- `MOV r16, imm16` (R251). -/
def execMovR16Imm16 (dst : Reg16) (imm : Word) (s : State) : Host.Outcome State Fault Refusal :=
  .next ((s.setReg16 dst imm).advance 3)

/-- `MOV r/m8, r8` (R252). -/
def execMovRm8R8 (dst : RM Reg8) (src : Reg8) (s : State) : Host.Outcome State Fault Refusal :=
  toOutcome (movToRM8 dst (s.reg8 src) dst.len s)

/-- `MOV r/m16, r16` (R253). -/
def execMovRm16R16 (dst : RM Reg16) (src : Reg16) (s : State) : Host.Outcome State Fault Refusal :=
  toOutcome (movToRM16 dst (s.reg16 src) dst.len s)

/-- `MOV r8, r/m8` (R254). -/
def execMovR8Rm8 (dst : Reg8) (src : RM Reg8) (s : State) : Host.Outcome State Fault Refusal :=
  toOutcome (s.execToReg (s.reg8 dst) (s.readRM8 src) (s.setReg8 dst) (fun _ b => b) (fun _ _ => none) true src.len)

/-- `MOV r16, r/m16` (R255). -/
def execMovR16Rm16 (dst : Reg16) (src : RM Reg16) (s : State) : Host.Outcome State Fault Refusal :=
  toOutcome (s.execToReg (s.reg16 dst) (s.readRM16 src) (s.setReg16 dst) (fun _ b => b) (fun _ _ => none) true src.len)

/-- `MOV r/m16, sreg` (R256): the segment-primary variant (R112). -/
def execMovRm16Sreg (dst : RM Reg16) (src : SReg) (s : State) : Host.Outcome State Fault Refusal :=
  toOutcome (movToRM16 dst (s.seg src) dst.len s)

/-- `MOV sreg, r/m16` (R257): CS may be written; fetch does not read it (R42, D12). -/
def execMovSregRm16 (dst : SReg) (src : RM Reg16) (s : State) : Host.Outcome State Fault Refusal :=
  toOutcome (s.execToReg (s.seg dst) (s.readRM16 src) (s.setSeg dst) (fun _ b => b) (fun _ _ => none) true src.len)

/-- `LES r16, m16:16` (R258). -/
def execLes (dst : Reg16) (src : MemForm) (s : State) : Host.Outcome State Fault Refusal :=
  toOutcome (loadFar .es dst src s)

/-- `LDS r16, m16:16` (R259). -/
def execLds (dst : Reg16) (src : MemForm) (s : State) : Host.Outcome State Fault Refusal :=
  toOutcome (loadFar .ds dst src s)

end Sys2Proof.Machine
end

