-- ==== Sys2Proof/Machine/Stack.lean ====
section
/-!
DEFINITION. PUSH, POP, PUSHA, POPA and the returns of `43_stack.md` (R274 to R287). None of them writes a flag (R50).
-/

namespace Sys2Proof.Machine


/-- A one-byte push of a value read before SP changes (R272). -/
def pushValue (v : Word) (s : State) : Except Fault State := do
  let s' ← s.push v
  return s'.advance 1

/-- A one-byte pop; the destination is written after SP has moved (R272). -/
def popTo (write : State → Word → State) (s : State) : Except Fault State := do
  let (v, s') ← s.pop
  return (write s' v).advance 1

/-- All eight slots are read, in order, before any register changes; SP is restored from its slot (R284, D15). -/
def popAllRegs (s : State) : Except Fault State := do
  let base := s.reg16 .sp
  let di ← s.stackSlot base 0
  let si ← s.stackSlot base 1
  let bp ← s.stackSlot base 2
  let sp ← s.stackSlot base 3
  let bx ← s.stackSlot base 4
  let dx ← s.stackSlot base 5
  let cx ← s.stackSlot base 6
  let ax ← s.stackSlot base 7
  return { s with gpr := { ax, cx, dx, bx, sp, bp, si, di } }.advance 1

/-- The general registers in PUSHA's order, SP as it stands before the instruction (R283). -/
def Gpr.inOrder (g : Gpr) : List Word := [g.ax, g.cx, g.dx, g.bx, g.sp, g.bp, g.si, g.di]

/-- `PUSH r16` (R274): PUSH SP pushes the value before the decrement (D14). -/
def execPushR16 (src : Reg16) (s : State) : Host.Outcome State Fault Refusal :=
  toOutcome (pushValue (s.reg16 src) s)

/-- `POP r16` (R275): POP SP leaves SP equal to the popped value (D14). -/
def execPopR16 (dst : Reg16) (s : State) : Host.Outcome State Fault Refusal :=
  toOutcome (popTo (·.setReg16 dst ·) s)

/-- `PUSH ES` (R276). -/
def execPushEs (s : State) : Host.Outcome State Fault Refusal :=
  toOutcome (pushValue (s.seg .es) s)

/-- `PUSH CS` (R277). -/
def execPushCs (s : State) : Host.Outcome State Fault Refusal :=
  toOutcome (pushValue (s.seg .cs) s)

/-- `PUSH SS` (R278). -/
def execPushSs (s : State) : Host.Outcome State Fault Refusal :=
  toOutcome (pushValue (s.seg .ss) s)

/-- `PUSH DS` (R279). -/
def execPushDs (s : State) : Host.Outcome State Fault Refusal :=
  toOutcome (pushValue (s.seg .ds) s)

/-- `POP ES` (R280). -/
def execPopEs (s : State) : Host.Outcome State Fault Refusal :=
  toOutcome (popTo (·.setSeg .es ·) s)

/-- `POP SS` (R281): the word is read with the old SS. -/
def execPopSs (s : State) : Host.Outcome State Fault Refusal :=
  toOutcome (popTo (·.setSeg .ss ·) s)

/-- `POP DS` (R282). -/
def execPopDs (s : State) : Host.Outcome State Fault Refusal :=
  toOutcome (popTo (·.setSeg .ds ·) s)

/-- `PUSHA` (R283): AX, CX, DX, BX, the old SP, BP, SI, DI. -/
def execPusha (s : State) : Host.Outcome State Fault Refusal :=
  toOutcome ((s.pushAll s.gpr.inOrder).map (·.advance 1))

/-- `POPA` (R284). -/
def execPopa (s : State) : Host.Outcome State Fault Refusal :=
  toOutcome (popAllRegs s)

/-- `RET` (R286): the popped word is the physical index of the next fetch. -/
def execRet (s : State) : Host.Outcome State Fault Refusal :=
  toOutcome (s.pop.map fun (t, s') => s'.setIp t.toNat)

/-- `RET imm16` (R287): the sum wraps modulo 2^16. -/
def execRetImm16 (imm : Word) (s : State) : Host.Outcome State Fault Refusal :=
  toOutcome (s.pop.map fun (t, s') => (s'.setReg16 .sp (s'.reg16 .sp + imm)).setIp t.toNat)

end Sys2Proof.Machine
end

