-- ==== Sys2Proof/Machine/Dispatch.lean ====
section
/-!
DEFINITION. One arm per instruction, each a direct call of its meaning (R114). `exec i s` runs `i` as the instruction
whose opcode byte stands at `s.ip` (R44).
-/

namespace Sys2Proof.Machine

def exec (i : Instr) (s : State) : Host.Outcome State Fault Refusal :=
  match i with
  | .addRm8R8 dst src => Sys2Proof.Machine.execAddRm8R8 dst src s
  | .addRm16R16 dst src => Sys2Proof.Machine.execAddRm16R16 dst src s
  | .addR8Rm8 dst src => Sys2Proof.Machine.execAddR8Rm8 dst src s
  | .addR16Rm16 dst src => Sys2Proof.Machine.execAddR16Rm16 dst src s
  | .addAlImm8 imm => Sys2Proof.Machine.execAddAlImm8 imm s
  | .addAxImm16 imm => Sys2Proof.Machine.execAddAxImm16 imm s
  | .orRm8R8 dst src => Sys2Proof.Machine.execOrRm8R8 dst src s
  | .orRm16R16 dst src => Sys2Proof.Machine.execOrRm16R16 dst src s
  | .orR8Rm8 dst src => Sys2Proof.Machine.execOrR8Rm8 dst src s
  | .orR16Rm16 dst src => Sys2Proof.Machine.execOrR16Rm16 dst src s
  | .orAlImm8 imm => Sys2Proof.Machine.execOrAlImm8 imm s
  | .orAxImm16 imm => Sys2Proof.Machine.execOrAxImm16 imm s
  | .adcRm8R8 dst src => Sys2Proof.Machine.execAdcRm8R8 dst src s
  | .adcRm16R16 dst src => Sys2Proof.Machine.execAdcRm16R16 dst src s
  | .adcR8Rm8 dst src => Sys2Proof.Machine.execAdcR8Rm8 dst src s
  | .adcR16Rm16 dst src => Sys2Proof.Machine.execAdcR16Rm16 dst src s
  | .adcAlImm8 imm => Sys2Proof.Machine.execAdcAlImm8 imm s
  | .adcAxImm16 imm => Sys2Proof.Machine.execAdcAxImm16 imm s
  | .sbbRm8R8 dst src => Sys2Proof.Machine.execSbbRm8R8 dst src s
  | .sbbRm16R16 dst src => Sys2Proof.Machine.execSbbRm16R16 dst src s
  | .sbbR8Rm8 dst src => Sys2Proof.Machine.execSbbR8Rm8 dst src s
  | .sbbR16Rm16 dst src => Sys2Proof.Machine.execSbbR16Rm16 dst src s
  | .sbbAlImm8 imm => Sys2Proof.Machine.execSbbAlImm8 imm s
  | .sbbAxImm16 imm => Sys2Proof.Machine.execSbbAxImm16 imm s
  | .andRm8R8 dst src => Sys2Proof.Machine.execAndRm8R8 dst src s
  | .andRm16R16 dst src => Sys2Proof.Machine.execAndRm16R16 dst src s
  | .andR8Rm8 dst src => Sys2Proof.Machine.execAndR8Rm8 dst src s
  | .andR16Rm16 dst src => Sys2Proof.Machine.execAndR16Rm16 dst src s
  | .andAlImm8 imm => Sys2Proof.Machine.execAndAlImm8 imm s
  | .andAxImm16 imm => Sys2Proof.Machine.execAndAxImm16 imm s
  | .subRm8R8 dst src => Sys2Proof.Machine.execSubRm8R8 dst src s
  | .subRm16R16 dst src => Sys2Proof.Machine.execSubRm16R16 dst src s
  | .subR8Rm8 dst src => Sys2Proof.Machine.execSubR8Rm8 dst src s
  | .subR16Rm16 dst src => Sys2Proof.Machine.execSubR16Rm16 dst src s
  | .subAlImm8 imm => Sys2Proof.Machine.execSubAlImm8 imm s
  | .subAxImm16 imm => Sys2Proof.Machine.execSubAxImm16 imm s
  | .xorRm8R8 dst src => Sys2Proof.Machine.execXorRm8R8 dst src s
  | .xorRm16R16 dst src => Sys2Proof.Machine.execXorRm16R16 dst src s
  | .xorR8Rm8 dst src => Sys2Proof.Machine.execXorR8Rm8 dst src s
  | .xorR16Rm16 dst src => Sys2Proof.Machine.execXorR16Rm16 dst src s
  | .xorAlImm8 imm => Sys2Proof.Machine.execXorAlImm8 imm s
  | .xorAxImm16 imm => Sys2Proof.Machine.execXorAxImm16 imm s
  | .cmpRm8R8 dst src => Sys2Proof.Machine.execCmpRm8R8 dst src s
  | .cmpRm16R16 dst src => Sys2Proof.Machine.execCmpRm16R16 dst src s
  | .cmpR8Rm8 dst src => Sys2Proof.Machine.execCmpR8Rm8 dst src s
  | .cmpR16Rm16 dst src => Sys2Proof.Machine.execCmpR16Rm16 dst src s
  | .cmpAlImm8 imm => Sys2Proof.Machine.execCmpAlImm8 imm s
  | .cmpAxImm16 imm => Sys2Proof.Machine.execCmpAxImm16 imm s
  | .pushEs => Sys2Proof.Machine.execPushEs s
  | .pushCs => Sys2Proof.Machine.execPushCs s
  | .pushSs => Sys2Proof.Machine.execPushSs s
  | .pushDs => Sys2Proof.Machine.execPushDs s
  | .popEs => Sys2Proof.Machine.execPopEs s
  | .popSs => Sys2Proof.Machine.execPopSs s
  | .popDs => Sys2Proof.Machine.execPopDs s
  | .pushR16 src => Sys2Proof.Machine.execPushR16 src s
  | .popR16 dst => Sys2Proof.Machine.execPopR16 dst s
  | .pusha => Sys2Proof.Machine.execPusha s
  | .popa => Sys2Proof.Machine.execPopa s
  | .jo disp => Sys2Proof.Machine.execJo disp s
  | .jno disp => Sys2Proof.Machine.execJno disp s
  | .jb disp => Sys2Proof.Machine.execJb disp s
  | .jae disp => Sys2Proof.Machine.execJae disp s
  | .je disp => Sys2Proof.Machine.execJe disp s
  | .jne disp => Sys2Proof.Machine.execJne disp s
  | .jbe disp => Sys2Proof.Machine.execJbe disp s
  | .ja disp => Sys2Proof.Machine.execJa disp s
  | .js disp => Sys2Proof.Machine.execJs disp s
  | .jns disp => Sys2Proof.Machine.execJns disp s
  | .jp disp => Sys2Proof.Machine.execJp disp s
  | .jnp disp => Sys2Proof.Machine.execJnp disp s
  | .jl disp => Sys2Proof.Machine.execJl disp s
  | .jge disp => Sys2Proof.Machine.execJge disp s
  | .jle disp => Sys2Proof.Machine.execJle disp s
  | .jg disp => Sys2Proof.Machine.execJg disp s
  | .addRm8Imm8 dst imm => Sys2Proof.Machine.execAddRm8Imm8 dst imm s
  | .orRm8Imm8 dst imm => Sys2Proof.Machine.execOrRm8Imm8 dst imm s
  | .adcRm8Imm8 dst imm => Sys2Proof.Machine.execAdcRm8Imm8 dst imm s
  | .sbbRm8Imm8 dst imm => Sys2Proof.Machine.execSbbRm8Imm8 dst imm s
  | .andRm8Imm8 dst imm => Sys2Proof.Machine.execAndRm8Imm8 dst imm s
  | .subRm8Imm8 dst imm => Sys2Proof.Machine.execSubRm8Imm8 dst imm s
  | .xorRm8Imm8 dst imm => Sys2Proof.Machine.execXorRm8Imm8 dst imm s
  | .cmpRm8Imm8 dst imm => Sys2Proof.Machine.execCmpRm8Imm8 dst imm s
  | .addRm16Imm16 dst imm => Sys2Proof.Machine.execAddRm16Imm16 dst imm s
  | .orRm16Imm16 dst imm => Sys2Proof.Machine.execOrRm16Imm16 dst imm s
  | .adcRm16Imm16 dst imm => Sys2Proof.Machine.execAdcRm16Imm16 dst imm s
  | .sbbRm16Imm16 dst imm => Sys2Proof.Machine.execSbbRm16Imm16 dst imm s
  | .andRm16Imm16 dst imm => Sys2Proof.Machine.execAndRm16Imm16 dst imm s
  | .subRm16Imm16 dst imm => Sys2Proof.Machine.execSubRm16Imm16 dst imm s
  | .xorRm16Imm16 dst imm => Sys2Proof.Machine.execXorRm16Imm16 dst imm s
  | .cmpRm16Imm16 dst imm => Sys2Proof.Machine.execCmpRm16Imm16 dst imm s
  | .addRm16SImm8 dst imm => Sys2Proof.Machine.execAddRm16SImm8 dst imm s
  | .orRm16SImm8 dst imm => Sys2Proof.Machine.execOrRm16SImm8 dst imm s
  | .adcRm16SImm8 dst imm => Sys2Proof.Machine.execAdcRm16SImm8 dst imm s
  | .sbbRm16SImm8 dst imm => Sys2Proof.Machine.execSbbRm16SImm8 dst imm s
  | .andRm16SImm8 dst imm => Sys2Proof.Machine.execAndRm16SImm8 dst imm s
  | .subRm16SImm8 dst imm => Sys2Proof.Machine.execSubRm16SImm8 dst imm s
  | .xorRm16SImm8 dst imm => Sys2Proof.Machine.execXorRm16SImm8 dst imm s
  | .cmpRm16SImm8 dst imm => Sys2Proof.Machine.execCmpRm16SImm8 dst imm s
  | .movRm8R8 dst src => Sys2Proof.Machine.execMovRm8R8 dst src s
  | .movRm16R16 dst src => Sys2Proof.Machine.execMovRm16R16 dst src s
  | .movR8Rm8 dst src => Sys2Proof.Machine.execMovR8Rm8 dst src s
  | .movR16Rm16 dst src => Sys2Proof.Machine.execMovR16Rm16 dst src s
  | .movRm16Sreg dst src => Sys2Proof.Machine.execMovRm16Sreg dst src s
  | .movSregRm16 dst src => Sys2Proof.Machine.execMovSregRm16 dst src s
  | .movR8Imm8 dst imm => Sys2Proof.Machine.execMovR8Imm8 dst imm s
  | .movR16Imm16 dst imm => Sys2Proof.Machine.execMovR16Imm16 dst imm s
  | .retImm16 imm => Sys2Proof.Machine.execRetImm16 imm s
  | .ret => Sys2Proof.Machine.execRet s
  | .les dst src => Sys2Proof.Machine.execLes dst src s
  | .lds dst src => Sys2Proof.Machine.execLds dst src s
  | .int vector => Sys2Proof.Machine.execInt vector s

end Sys2Proof.Machine
end

