-- ==== Sys2Proof/Machine/Fetch.lean ====
section
/-!
DEFINITION. Fetching the bytes of the next instruction and decoding them, with the faults of the fetch (R82, R91, R349).
-/

namespace Sys2Proof.Machine

/-- Up to `n` consecutive bytes of memory from `a` up, ending at the end of memory. -/
def Memory.window (m : Memory) (a : Nat) : Nat → List Byte
  | 0 => []
  | n + 1 => if a < Config.memSize then Memory.byte m a :: Memory.window m (a + 1) n else []

/-- The bytes an instruction at `ip` can be made of: none when `ip` is no address (R42, R43). CS is not added. -/
def State.fetchWindow (s : State) : List Byte :=
  if s.ip < 0 then [] else Memory.window s.mem s.ip.toNat Config.maxInstrBytes

/-- The fatal that the run loop or the fetch raises where the decoder refuses (R341, R342, R344). -/
def fetchFault (ip : Int) : DecodeError → Fault
  | .missing k => .addressOutOfRange (ip + k)
  | .opcode op => .unimplementedOpcode op ip
  | .modrm op m => .unimplementedModRM op m ip

/-- The instruction at `ip` (R115), every byte of it read before it runs (R91). -/
def State.fetch (s : State) : Except Fault Instr :=
  (decode s.fetchWindow).mapError (fetchFault s.ip)

end Sys2Proof.Machine
end

