-- ==== Sys2Proof/Machine/Place.lean ====
section
/-!
DEFINITION. Placing an instruction where the next step fetches it; what `State.withFetchWord` of `Step.lean` calls
(log 2).
-/

namespace Sys2Proof.Machine

/-- Whether the next step of the state is an instruction step whose longest instruction lies inside memory. -/
def State.aboutToFetch (s : State) : Bool :=
  match s.frames with
  | .run ipEnd :: _ => decide (s.ip < ipEnd) && decide (0 ≤ s.ip) && decide (s.ip + Config.maxInstrBytes ≤ Config.memSize)
  | _ => false

/-- The state itself when it is about to fetch, else the state at the start of the conventional run
`Execute(0x100, 65536)` (R383 step 5). -/
def State.readyToFetch (s : State) : State :=
  if s.aboutToFetch then s else s.startRun 0x100 65536

/-- The bytes stored where that state fetches. -/
def State.placeBytes (s : State) (bytes : List Byte) : State :=
  let r := s.readyToFetch
  r.setMem (Memory.setBytes r.mem r.ip.toNat bytes)

end Sys2Proof.Machine
end

