-- ==== Sys2Proof/Machine/Service.lean ====
section
/-!
DEFINITION. The host's turns: what the core does with a call of the host between runs and inside a service, and the
acts of the INT 21h platform service (R60 to R63, R355 to R366). One call or one act is one step (log 6).
-/

namespace Sys2Proof.Machine

/-- `$`, the terminator of AH = 09h (R362). -/
def dosTerminator : Byte := 0x24

/-- The next call of the host and the state with that call taken from the list. -/
def State.nextCall (s : State) : Option (HostCall × State) :=
  match s.host with
  | [] => none
  | c :: cs => some (c, { s with host := cs })

/-- `LoadBytes`: the loader writes an image that lies inside memory (R383 step 2). -/
def State.loadBytes (s : State) (addr : Nat) (bytes : List Byte) : Host.Outcome State Fault Refusal :=
  if addr + bytes.length ≤ Config.memSize then .next (s.setMem (Memory.setBytes s.mem addr bytes))
  else .refused .hostLoadOutOfRange

/-- The calls the host may make at any time it acts: the accessors of R61 and R62, and `Execute` (R60). Reading gives
the host a value and changes nothing; `GetInDs` is range-checked (R62). None: the call is not one of these. -/
def State.commonCall (s : State) : HostCall → Option (Except Fault State)
  | .getReg8 _ => some (.ok s)
  | .getReg16 _ => some (.ok s)
  | .getSeg _ => some (.ok s)
  | .setReg8 r v => some (.ok (s.setReg8 r v))
  | .setReg16 r v => some (.ok (s.setReg16 r v))
  | .setSeg r v => some (.ok (s.setSeg r v))
  | .getInDs off => some ((s.getInDs off).map fun _ => s)
  | .execute a b => some (.ok (s.startRun a b))
  | .setInterruptHandler _ _ => none
  | .load _ _ => none
  | .emit _ => none
  | .ret _ => none

/-- A call between runs: the common ones, `SetInterruptHandler` and the loader's writes (R61 to R63, R383). Without a
call the core stays idle (R375, log 7). -/
def State.idleTurn (s : State) : Host.Outcome State Fault Refusal :=
  match s.nextCall with
  | none => .next s
  | some (c, s') =>
    match c with
    | .setInterruptHandler v svc => .next { s' with intTable := IntTable.register s'.intTable v svc }
    | .load addr bytes => s'.loadBytes addr bytes
    | c =>
      match s'.commonCall c with
      | some r => toOutcome r
      | none => .refused .hostCallOutOfPlace

/-- What the INT at `intIp` does with the result of its service (R330). -/
def State.serviceReturn (s : State) (intIp : Int) : ServiceResult → Host.Outcome State Fault Refusal
  | .resume => .next (s.resumeAfterInt intIp)
  | .exit => .next s.exitRuns
  | .fatal e => .fault e

/-- A call inside a callback: the common ones, output, and the return (R355). Without a call the service has not
returned, and the core waits (R356, log 7). -/
def State.callbackTurn (s : State) (intIp : Int) : Host.Outcome State Fault Refusal :=
  match s.nextCall with
  | none => .next s
  | some (c, s') =>
    match c with
    | .emit b => .next { s' with sink := s'.sink ++ [b] }
    | .ret r => s'.serviceReturn intIp r
    | c =>
      match s'.commonCall c with
      | some r => toOutcome r
      | none => .refused .hostCallOutOfPlace

/-- Replace the innermost frame. -/
def State.setActivation (s : State) (intIp : Int) (act : Activation) : State :=
  { s with frames := .service intIp act :: s.frames.tail }

/-- `Dos21` on entry: AH = 09h starts the string at DX, AH = 4Ch exits, anything else is fatal (R361, R364, R366). -/
def State.dosEntry (s : State) (intIp : Int) : Host.Outcome State Fault Refusal :=
  match (s.reg8 .ah).toNat with
  | 0x09 => .next (s.setActivation intIp (.dosString (s.reg16 .dx)))
  | 0x4C => s.serviceReturn intIp .exit
  | _ => s.serviceReturn intIp (.fatal (.unimplementedService (s.reg8 .ah)))

/-- One byte of the string: `$` ends it, any other byte goes to the sink and the offset moves on modulo 2^16 (R362). -/
def State.dosString (s : State) (intIp : Int) (off : Word) : Host.Outcome State Fault Refusal :=
  match s.getInDs off with
  | .error f => .fault f
  | .ok b =>
    if b = dosTerminator then s.serviceReturn intIp .resume
    else .next ({ s with sink := s.sink ++ [b] }.setActivation intIp (.dosString (off + 1)))

/-- One act of the service of the INT at `intIp`. -/
def State.serviceTurn (s : State) (intIp : Int) : Activation → Host.Outcome State Fault Refusal
  | .dosEntry => s.dosEntry intIp
  | .dosString off => s.dosString intIp off
  | .callback _ => s.callbackTurn intIp

/-- The host's calls of the COM-style launch, in the order of R383; `Execute(0x100, 65536)` is the last. -/
def comLaunch (image : List Byte) : List HostCall :=
  [.load 0x100 image, .setSeg .cs 0, .setSeg .ss 0, .setReg16 .sp 0x00FE, .setInterruptHandler 0x21 .dos21,
    .execute 0x100 65536]

end Sys2Proof.Machine
end

