-- ==== Sys2Proof/Machine/Step.lean ====
section
/-!
DEFINITION. One step of the machine (R17, R115): one instruction of the innermost run, the end of that run at its
bound, or one act of the host.
-/

namespace Sys2Proof.Machine

/-- Fetch, decode and execute one instruction (R115). -/
def runInstruction (s : State) : Host.Outcome State Fault Refusal :=
  match s.fetch with
  | .ok i => exec i s
  | .error f => .fault f

/-- One step. The bound is checked before the fetch and nothing else ends a run as Completed (R115, D7). -/
def step (s : State) : Host.Outcome State Fault Refusal :=
  match s.frames with
  | [] => s.idleTurn
  | .run ipEnd :: _ => if ipEnd ≤ s.ip then .next s.completeRun else runInstruction s
  | .service intIp act :: _ => s.serviceTurn intIp act

/-- The state with a word of the opcode table stored where step fetches its next instruction, a run being started when
none is about to fetch (log 2). -/
def State.withFetchWord (s : State) (nbits w : Nat) : State := s.placeBytes (tableBytes nbits w)

end Sys2Proof.Machine
end

