-- ==== Sys2Proof/Machine/Run.lean ====
section
/-!
DEFINITION. The machine as the host sees it: a whole run and its result (R60, R64, R351), and many runs one after the
other, over fatals too (R350, R365). Each has a bound on the steps, since a run need not end (R351, U9).
-/

namespace Sys2Proof.Machine

/-- Steps until no run is in progress, at most `fuel` of them. A fatal ends the run with the state of the step that
stopped (R348, R350). None: the fuel ran out, or the host broke its contract. -/
def runToEnd : Nat → State → Option (RunResult × State)
  | 0, _ => none
  | fuel + 1, s =>
    match step s with
    | .next t => if t.frames = [] then t.result.map fun r => (r, t) else runToEnd fuel t
    | .fault f => some (.fatal f, s.endFatal f)
    | .refused _ => none

/-- `Execute(ipStart, ipEnd)` on an idle core (R60). -/
def execute (fuel : Nat) (ipStart ipEnd : Int) (s : State) : Option (RunResult × State) :=
  runToEnd fuel (s.startRun ipStart ipEnd)

/-- Steps of one core over the whole life of its host: a fatal ends the runs in progress and the host goes on with its
next call over the preserved state; "there is no return from a fatal" (R350). None: the host broke its contract. -/
def session : Nat → State → Option State
  | 0, s => some s
  | n + 1, s =>
    match step s with
    | .next t => session n t
    | .fault f => session n (s.endFatal f)
    | .refused _ => none

end Sys2Proof.Machine
end

