-- ==== Sys2Proof/Safety.lean ====
section
/-!
DEFINITION. What a good state is and what a safe run is, in the terms the statements use.
-/

namespace Sys2Proof.Machine

/-- Runs and services nest by turns: a run stands above nothing or above the service that started it, a service above
the run whose INT called it (R358). -/
def framesWf : List Frame → Bool
  | [] => true
  | [.run _] => true
  | .run _ :: .service i a :: rest => framesWf (.service i a :: rest)
  | .service _ _ :: .run e :: rest => framesWf (.run e :: rest)
  | _ => false

/-- AF, TF, IF and DF "keep their reset value 0 for the whole life of the core" (R48). -/
def Flags.idleFlagsClear (f : Flags) : Bool := !f.AF && !f.TF && !f.IF && !f.DF

/-- The invariant of the machine: memory and the interrupt table in canonical form, the nesting of runs and services
well formed, the four unused flags 0. -/
structure State.Inv (s : State) : Prop where
  mem : Memory.wf s.mem = true
  intTable : IntTable.wf s.intTable = true
  frames : framesWf s.frames = true
  flags : s.flags.idleFlagsClear = true

/-- The machine goes on from the state. -/
def State.goesOn (s : State) : Prop := ∃ t, step s = .next t

end Sys2Proof.Machine
end

