-- ==== Sys2Proof/Certificates/Slice0/Obligations.lean ====
section
/-!
DEFINITION. The statements for the provers, `def Obligations.<Name> : Prop`, listed in `OBLIGATIONS.json`, after the few
definitions they share. A statement that rests on a decision of `92_eei_decisions.md` or on a log entry names it.
-/

namespace Sys2Proof.Statements

open Sys2Proof.Machine

/-! ## Families of instructions -/

/-- The eight `r/m8, r8` instructions (R153 form 0). -/
def aluRm8R8 : AluOp → RM Reg8 → Reg8 → Instr
  | .add => .addRm8R8
  | .or => .orRm8R8
  | .adc => .adcRm8R8
  | .sbb => .sbbRm8R8
  | .and => .andRm8R8
  | .sub => .subRm8R8
  | .xor => .xorRm8R8
  | .cmp => .cmpRm8R8

/-- The eight `r/m16, r16` instructions (R153 form 1). -/
def aluRm16R16 : AluOp → RM Reg16 → Reg16 → Instr
  | .add => .addRm16R16
  | .or => .orRm16R16
  | .adc => .adcRm16R16
  | .sbb => .sbbRm16R16
  | .and => .andRm16R16
  | .sub => .subRm16R16
  | .xor => .xorRm16R16
  | .cmp => .cmpRm16R16

/-- The eight `r8, r/m8` instructions (R153 form 2). -/
def aluR8Rm8 : AluOp → Reg8 → RM Reg8 → Instr
  | .add => .addR8Rm8
  | .or => .orR8Rm8
  | .adc => .adcR8Rm8
  | .sbb => .sbbR8Rm8
  | .and => .andR8Rm8
  | .sub => .subR8Rm8
  | .xor => .xorR8Rm8
  | .cmp => .cmpR8Rm8

/-- The eight `r16, r/m16` instructions (R153 form 3). -/
def aluR16Rm16 : AluOp → Reg16 → RM Reg16 → Instr
  | .add => .addR16Rm16
  | .or => .orR16Rm16
  | .adc => .adcR16Rm16
  | .sbb => .sbbR16Rm16
  | .and => .andR16Rm16
  | .sub => .subR16Rm16
  | .xor => .xorR16Rm16
  | .cmp => .cmpR16Rm16

/-- The eight `AL, imm8` instructions (R160). -/
def aluAlImm8 : AluOp → Byte → Instr
  | .add => .addAlImm8
  | .or => .orAlImm8
  | .adc => .adcAlImm8
  | .sbb => .sbbAlImm8
  | .and => .andAlImm8
  | .sub => .subAlImm8
  | .xor => .xorAlImm8
  | .cmp => .cmpAlImm8

/-- The eight `AX, imm16` instructions (R160). -/
def aluAxImm16 : AluOp → Word → Instr
  | .add => .addAxImm16
  | .or => .orAxImm16
  | .adc => .adcAxImm16
  | .sbb => .sbbAxImm16
  | .and => .andAxImm16
  | .sub => .subAxImm16
  | .xor => .xorAxImm16
  | .cmp => .cmpAxImm16

/-- The eight instructions of group 80h (R220). -/
def aluRm8Imm8 : AluOp → RM Reg8 → Byte → Instr
  | .add => .addRm8Imm8
  | .or => .orRm8Imm8
  | .adc => .adcRm8Imm8
  | .sbb => .sbbRm8Imm8
  | .and => .andRm8Imm8
  | .sub => .subRm8Imm8
  | .xor => .xorRm8Imm8
  | .cmp => .cmpRm8Imm8

/-- The eight instructions of group 81h (R220). -/
def aluRm16Imm16 : AluOp → RM Reg16 → Word → Instr
  | .add => .addRm16Imm16
  | .or => .orRm16Imm16
  | .adc => .adcRm16Imm16
  | .sbb => .sbbRm16Imm16
  | .and => .andRm16Imm16
  | .sub => .subRm16Imm16
  | .xor => .xorRm16Imm16
  | .cmp => .cmpRm16Imm16

/-- The eight instructions of group 83h (R220). -/
def aluRm16SImm8 : AluOp → RM Reg16 → Byte → Instr
  | .add => .addRm16SImm8
  | .or => .orRm16SImm8
  | .adc => .adcRm16SImm8
  | .sbb => .sbbRm16SImm8
  | .and => .andRm16SImm8
  | .sub => .subRm16SImm8
  | .xor => .xorRm16SImm8
  | .cmp => .cmpRm16SImm8

/-- The sixteen conditional jumps (R300). -/
def jcc : Cond → Byte → Instr
  | .o => .jo
  | .no => .jno
  | .b => .jb
  | .ae => .jae
  | .e => .je
  | .ne => .jne
  | .be => .jbe
  | .a => .ja
  | .s => .js
  | .ns => .jns
  | .p => .jp
  | .np => .jnp
  | .l => .jl
  | .ge => .jge
  | .le => .jle
  | .g => .jg

/-- PUSH of a segment register (R276 to R279). -/
def pushSeg : SReg → Instr
  | .es => .pushEs
  | .cs => .pushCs
  | .ss => .pushSs
  | .ds => .pushDs

/-- POP of a segment register; there is no POP CS (R280 to R282). -/
def popSeg : SReg → Option Instr
  | .es => some .popEs
  | .cs => none
  | .ss => some .popSs
  | .ds => some .popDs

/-- The ALU instructions of operation `op` that write the 8-bit register `r` (CMP: that have it as destination). -/
def AluInto8 (op : AluOp) (r : Reg8) (i : Instr) : Prop :=
  (∃ src, i = aluRm8R8 op (.reg r) src) ∨ (∃ src, i = aluR8Rm8 op r src) ∨ (∃ imm, r = .al ∧ i = aluAlImm8 op imm) ∨
    (∃ imm, i = aluRm8Imm8 op (.reg r) imm)

/-- The ALU instructions of operation `op` whose destination is the 16-bit register `r`. -/
def AluInto16 (op : AluOp) (r : Reg16) (i : Instr) : Prop :=
  (∃ src, i = aluRm16R16 op (.reg r) src) ∨ (∃ src, i = aluR16Rm16 op r src) ∨
    (∃ imm, r = .ax ∧ i = aluAxImm16 op imm) ∨ (∃ imm, i = aluRm16Imm16 op (.reg r) imm) ∨
    (∃ imm, i = aluRm16SImm8 op (.reg r) imm)

/-- The ALU instructions of operation `op` whose destination is the byte at `m`. -/
def AluIntoMem8 (op : AluOp) (m : MemForm) (i : Instr) : Prop :=
  (∃ src, i = aluRm8R8 op (.mem m) src) ∨ (∃ imm, i = aluRm8Imm8 op (.mem m) imm)

/-- The ALU instructions of operation `op` whose destination is the word at `m`. -/
def AluIntoMem16 (op : AluOp) (m : MemForm) (i : Instr) : Prop :=
  (∃ src, i = aluRm16R16 op (.mem m) src) ∨ (∃ imm, i = aluRm16Imm16 op (.mem m) imm) ∨
    (∃ imm, i = aluRm16SImm8 op (.mem m) imm)

/-- The MOV forms that write the 8-bit register `r`. -/
def MovInto8 (r : Reg8) (i : Instr) : Prop :=
  (∃ src, i = .movRm8R8 (.reg r) src) ∨ (∃ src, i = .movR8Rm8 r src) ∨ (∃ imm, i = .movR8Imm8 r imm)

/-- The MOV forms that write the 16-bit general register `r`. -/
def MovInto16 (r : Reg16) (i : Instr) : Prop :=
  (∃ src, i = .movRm16R16 (.reg r) src) ∨ (∃ src, i = .movR16Rm16 r src) ∨ (∃ imm, i = .movR16Imm16 r imm) ∨
    (∃ src, i = .movRm16Sreg (.reg r) src)

/-- The instructions that do not set `ip` to a target: all but the jumps, the returns and INT (R44). -/
def sequential : Instr → Bool
  | .jo _ | .jno _ | .jb _ | .jae _ | .je _ | .jne _ | .jbe _ | .ja _ => false
  | .js _ | .jns _ | .jp _ | .jnp _ | .jl _ | .jge _ | .jle _ | .jg _ => false
  | .ret | .retImm16 _ | .int _ => false
  | _ => true

/-- The 119 opcode bytes marked with a mnemonic in the opcode map (R118). -/
def implementedOpcode (op : Byte) : Bool :=
  let o := op.toNat
  (o ≤ 0x3D && o % 8 ≤ 5) || [0x06, 0x07, 0x0E, 0x16, 0x17, 0x1E, 0x1F].contains o || (0x50 ≤ o && o ≤ 0x61) ||
    (0x70 ≤ o && o ≤ 0x7F) || [0x80, 0x81, 0x83].contains o || (0x88 ≤ o && o ≤ 0x8C) || o == 0x8E ||
    (0xB0 ≤ o && o ≤ 0xBF) || [0xC2, 0xC3, 0xC4, 0xC5, 0xCD].contains o

/-! ## The fields of an encoding -/

/-- The displacement that follows the ModRM byte `m`: its size, none when there is none (R107). -/
def dispSizes (m : Byte) : List Nat :=
  match (m.extractLsb' 6 2).toNat with
  | 0 => if (m.extractLsb' 0 3).toNat = 6 then [2] else []
  | 1 => [1]
  | 2 => [2]
  | _ => []

/-- The opcodes that a ModRM byte follows (R101). -/
def hasModrm (op : Byte) : Bool :=
  let o := op.toNat
  (o ≤ 0x3D && o % 8 ≤ 3) || [0x80, 0x81, 0x83].contains o || (0x88 ≤ o && o ≤ 0x8C) || [0x8E, 0xC4, 0xC5].contains o

/-- The immediate, vector or jump displacement of an opcode: its size, none when there is none (R101, R110). -/
def immSizes (op : Byte) : List Nat :=
  let o := op.toNat
  if (o ≤ 0x3D && o % 8 == 4) || (0x70 ≤ o && o ≤ 0x7F) || (0xB0 ≤ o && o ≤ 0xB7) || [0x80, 0x83, 0xCD].contains o then [1]
  else if (o ≤ 0x3D && o % 8 == 5) || (0xB8 ≤ o && o ≤ 0xBF) || [0x81, 0xC2].contains o then [2]
  else []

/-- The sizes of the fields of the instruction with opcode byte `op` and, if it has one, ModRM byte `m`, in the order of
their fetch: opcode, ModRM, displacement, immediate (R92, R101). -/
def fieldSizes (op m : Byte) : List Nat := 1 :: ((if hasModrm op then 1 :: dispSizes m else []) ++ immSizes op)

/-- The offset at which the field that holds byte `n` begins. -/
def fieldStart : List Nat → Nat → Nat
  | [], _ => 0
  | w :: ws, n => if n < w then 0 else w + fieldStart ws (n - w)

/-- The fields of an instruction's encoding. -/
def fieldsOf (i : Instr) : List Nat := fieldSizes ((encode i).getD 0 0) ((encode i).getD 1 0)

/-! ## Operands -/

/-- The 8-bit rm side lies in a register or inside memory (R76). -/
def fits8 (s : State) : RM Reg8 → Prop
  | .reg _ => True
  | .mem m => s.operandAddr m + 1 ≤ Config.memSize

/-- The 16-bit rm side lies in a register or inside memory (R76). -/
def fits16 (s : State) : RM Reg16 → Prop
  | .reg _ => True
  | .mem m => s.operandAddr m + 2 ≤ Config.memSize

/-- The value of the 8-bit rm side (R151). -/
def value8 (s : State) : RM Reg8 → Byte
  | .reg r => s.reg8 r
  | .mem m => Memory.byte s.mem (s.operandAddr m)

/-- The value of the 16-bit rm side, little-endian in memory (R151, R78). -/
def value16 (s : State) : RM Reg16 → Word
  | .reg r => s.reg16 r
  | .mem m => Memory.word s.mem (s.operandAddr m)

/-- The state with the 8-bit rm side written (R151). -/
def store8 (s : State) (rm : RM Reg8) (v : Byte) : State :=
  match rm with
  | .reg r => s.setReg8 r v
  | .mem m => s.setMem (Memory.setByte s.mem (s.operandAddr m) v)

/-- The state with the 16-bit rm side written, low byte first in memory (R151, R79). -/
def store16 (s : State) (rm : RM Reg16) (v : Word) : State :=
  match rm with
  | .reg r => s.setReg16 r v
  | .mem m => s.setMem (Memory.setWord s.mem (s.operandAddr m) v)

/-- What an ALU operation does with a destination whose value is `a`: result unless CMP, flags, `ip` (R150, R220). -/
def aluEffect {n : Nat} (op : AluOp) (a b : BitVec n) (len : Nat) (write : BitVec n → State) (s : State) : State :=
  ((if op = .cmp then s else write (aluResult op a b s.flags.CF)).setStatus (aluFlags op a b s.flags.CF)).advance len

/-- The `k`th word slot above the stack top, offsets wrapping modulo 2^16. -/
def slotAbove (s : State) (k : Nat) : Nat := s.stackAddr (s.reg16 .sp + BitVec.ofNat 16 (2 * k))

/-- The `k`th word slot below the stack top, offsets wrapping modulo 2^16. -/
def slotBelow (s : State) (k : Nat) : Nat := s.stackAddr (s.reg16 .sp - BitVec.ofNat 16 (2 * k))

/-- The general registers in index order, the order of PUSHA (R31, R283). -/
def regOfIndex (k : Nat) : Reg16 := Reg16.ofCode (BitVec.ofNat 3 k)

/-! ## Frames -/

/-- Every 8-bit view but `r`, and every general register but the cell of `r`, reads as before. -/
def RegsButView (s t : State) (r : Reg8) : Prop :=
  (∀ q, q ≠ r → t.reg8 q = s.reg8 q) ∧ ∀ q, q ≠ Reg8.cell r → t.reg16 q = s.reg16 q

/-- Every general register that is not in the list reads as before. -/
def RegsBut (s t : State) (written : List Reg16) : Prop := ∀ q, q ∉ written → t.reg16 q = s.reg16 q

/-- Every segment register that is not in the list reads as before. -/
def SegsBut (s t : State) (written : List SReg) : Prop := ∀ q, q ∉ written → t.seg q = s.seg q

/-- AF, TF, IF and DF read as before. -/
def UnusedFlagsSame (s t : State) : Prop :=
  t.flags.AF = s.flags.AF ∧ t.flags.TF = s.flags.TF ∧ t.flags.IF = s.flags.IF ∧ t.flags.DF = s.flags.DF

/-- Every byte of memory reads as before. -/
def MemorySame (s t : State) : Prop := ∀ a, Memory.byte t.mem a = Memory.byte s.mem a

/-- Every byte outside the `n` bytes from `p` reads as before. -/
def MemoryBut (s t : State) (p n : Nat) : Prop := ∀ a, a < p ∨ p + n ≤ a → Memory.byte t.mem a = Memory.byte s.mem a

/-- The interrupt table, the runs in progress, the last result, the output and the host's calls are as before. -/
def OutsideSame (s t : State) : Prop :=
  t.intTable = s.intTable ∧ t.frames = s.frames ∧ t.result = s.result ∧ t.sink = s.sink ∧ t.host = s.host

/-! ## Runs -/

/-- The state stands before an instruction of a run: the innermost frame is a run whose bound is not reached. -/
def Running (s : State) : Prop := ∃ e fs, s.frames = .run e :: fs ∧ s.ip < e

/-- The bytes stand in memory from `ip` on. -/
def BytesAtIp (s : State) (bs : List Byte) : Prop :=
  0 ≤ s.ip ∧ s.ip.toNat + bs.length ≤ Config.memSize ∧ ∀ k, bs[k]? = none ∨ bs[k]? = some (Memory.byte s.mem (s.ip.toNat + k))

/-- The host may use the register accessors: no run is in progress, or a callback runs (R61). -/
def HostActs (s : State) : Prop := s.frames = [] ∨ ∃ intIp id fs, s.frames = .service intIp (.callback id) :: fs

/-- An outcome with its next state changed. -/
def mapNext (f : State → State) : Host.Outcome State Fault Refusal → Host.Outcome State Fault Refusal
  | .next s => .next (f s)
  | .fault e => .fault e
  | .refused r => .refused r

/-- PF as the exclusive-or form of "an even number of 1 bits" in bits 7..0 (R10, R140). -/
def evenLowByte {n : Nat} (res : BitVec n) : Bool := (List.range 8).foldl (fun even k => even ^^ res.getLsbD k) true

/-- `s_N` of both ends: the value lies in the N-bit signed range. -/
def inSigned (n : Nat) (v : Int) : Prop := -(2 ^ (n - 1) : Int) ≤ v ∧ v < (2 ^ (n - 1) : Int)

end Sys2Proof.Statements

section SliceStatements

open Sys2Proof Sys2Proof.Machine Sys2Proof.Statements

/-! ## Encoding and decoding -/

/-- Decoding the words of any well-formed instruction, whatever bytes follow, gives the instruction back (R101, R118). -/
def Obligations.DecodeOfEncodeIsIdentity : Prop :=
  ∀ (i : Instr) (rest : List Byte), i.wellFormed = true → decode (encode i ++ rest) = .ok i

/-- Whatever the decoder accepts is a well-formed instruction, and the bytes it stands in are that instruction's own
encoding: no word has two meanings and no instruction two encodings (R114, R121). -/
def Obligations.EncodeOfDecodeIsIdentity : Prop :=
  ∀ (bs : List Byte) (i : Instr), decode bs = .ok i → i.wellFormed = true ∧ ∃ rest, bs = encode i ++ rest

/-- Words written out bit by bit from R101, R102 and R106 to R110 decode to the instructions they stand for, one of
every family; the first three are the source's own encodings (R124). -/
def Obligations.SampleWordsDecode : Prop :=
  decode [0b10110000, 0x04] = .ok (.movR8Imm8 .al 0x04) ∧
  decode [0b10110100, 0x04] = .ok (.movR8Imm8 .ah 0x04) ∧
  decode [0b00110000, 0b11000000] = .ok (.xorRm8R8 (.reg .al) .al) ∧
  decode [0b00000011, 0b01110110, 0b11111110] = .ok (.addR16Rm16 .si (.mem (.disp8 .bp 0xFE))) ∧
  decode [0b00111101, 0x34, 0x12] = .ok (.cmpAxImm16 0x1234) ∧
  decode [0b10000011, 0b10101111, 0x00, 0x01, 0x80] = .ok (.subRm16SImm8 (.mem (.disp16 .bx 0x0100)) 0x80) ∧
  decode [0b10001001, 0b00010110, 0x00, 0x04] = .ok (.movRm16R16 (.mem (.direct 0x0400)) .dx) ∧
  decode [0b10001110, 0b11011011] = .ok (.movSregRm16 .ds (.reg .bx)) ∧
  decode [0b11000100, 0b01111111, 0x04] = .ok (.les .di (.disp8 .bx 0x04)) ∧
  decode [0b01010100] = .ok (.pushR16 .sp) ∧
  decode [0b00011111] = .ok .popDs ∧
  decode [0b11000010, 0x04, 0x00] = .ok (.retImm16 0x0004) ∧
  decode [0b01111100, 0xFE] = .ok (.jl 0xFE) ∧
  decode [0b11001101, 0x21] = .ok (.int 0x21)

/-- A ModRM byte whose mod field is 11 names the register R2 = bits 2..0 and has encoding length 2, in both register
spaces; reading or writing that operand does not touch memory (R104). -/
def Obligations.RegisterDirectOperand : Prop :=
  ∀ (m : Byte) (bs : List Byte), m.extractLsb' 6 2 = 3#2 →
    decodeRM Reg8.ofCode m bs = .ok (.reg (Reg8.ofCode (m.extractLsb' 0 3))) ∧
    decodeRM Reg16.ofCode m bs = .ok (.reg (Reg16.ofCode (m.extractLsb' 0 3))) ∧
    (∀ r : Reg8, (RM.reg r).len = 2 ∧ ∀ (s : State) (v : Byte), s.readRM8 (.reg r) = .ok (s.reg8 r) ∧
      ∃ t, s.writeRM8 (.reg r) v = .ok t ∧ t.mem = s.mem) ∧
    (∀ r : Reg16, (RM.reg r).len = 2 ∧ ∀ (s : State) (v : Word), s.readRM16 (.reg r) = .ok (s.reg16 r) ∧
      ∃ t, s.writeRM16 (.reg r) v = .ok t ∧ t.mem = s.mem)

/-- The 16-bit effective-address table: for every ModRM byte of a memory form the decoder's operand has the effective
address, the length and the segment of R106, R107 and R74 (the segment is decision D4). -/
def Obligations.EffectiveAddressTable : Prop :=
  ∀ (op m d0 d1 : Byte) (tail : List Byte) (g : Gpr), m.extractLsb' 6 2 ≠ 3#2 →
    let mod := (m.extractLsb' 6 2).toNat
    let rm := (m.extractLsb' 0 3).toNat
    let base : Word := match rm with
      | 0 => g.bx + g.si | 1 => g.bx + g.di | 2 => g.bp + g.si | 3 => g.bp + g.di
      | 4 => g.si | 5 => g.di | 6 => g.bp | _ => g.bx
    ∃ mf, decodeRM Reg16.ofCode m (op :: m :: d0 :: d1 :: tail) = .ok (.mem mf) ∧
      decodeRM Reg8.ofCode m (op :: m :: d0 :: d1 :: tail) = .ok (.mem mf) ∧
      (mod = 0 ∧ rm = 6 → effAddr g mf = d1 ++ d0 ∧ mf.len = 4 ∧ operandSeg mf = .ds) ∧
      (mod = 0 ∧ rm ≠ 6 → effAddr g mf = base ∧ mf.len = 2) ∧
      (mod = 1 → effAddr g mf = base + d0.signExtend 16 ∧ mf.len = 3) ∧
      (mod = 2 → effAddr g mf = base + (d1 ++ d0) ∧ mf.len = 4) ∧
      (¬(mod = 0 ∧ rm = 6) → operandSeg mf = if rm = 2 ∨ rm = 3 ∨ rm = 6 then .ss else .ds)

/-! ## The run loop -/

/-- When the bytes at `ip` decode to an instruction, a step of the run is that instruction, executed in that state; the
bytes are those of memory from the physical index `ip` on, CS not added (R42, R115). -/
def Obligations.StepRunsTheDecodedInstruction : Prop :=
  ∀ (s : State) (i : Instr), Running s → decode s.fetchWindow = .ok i → step s = exec i s

/-- When the encoding of a well-formed instruction stands in memory at `ip`, a step of the run executes it: every byte
is read from the memory of that moment, so an earlier store to it is seen (R91, R115). -/
def Obligations.StepRunsTheInstructionInMemory : Prop :=
  ∀ (s : State) (i : Instr), Running s → i.wellFormed = true → BytesAtIp s (encode i) → step s = exec i s

/-- How a run ends but by an exit. The bound is checked before the fetch: an outermost run whose `ip` has reached it ends
as Completed; a nested one gives control back to the service that started it; nothing else changes; so `Execute` over an
empty range only sets `ip` and completes. A fatal ends every run as Fatal with its reason and keeps every register, flag,
memory byte, vector and `ip` of the step that raised it; the call of the host that raised it, if one did, is made, and a
later `Execute` starts over that state. `Execute` returns Fatal for no other reason (R60, R115, R348, R350, R351, R358;
decision D7). The model's choices: that the result is recorded in the field `result`, that a nested Completed leaves that
field alone (log 15), and that a fatal is the fault of a step (log 8). -/
def Obligations.BoundReachedEndsTheRun : Prop :=
  (∀ (s : State) (e : Int), e ≤ s.ip →
    (s.frames = [.run e] → step s = .next { s with frames := [], result := some .completed }) ∧
    (∀ f fs, s.frames = .run e :: f :: fs → step s = .next { s with frames := f :: fs })) ∧
  (∀ (s : State) (fuel : Nat) (a b : Int), s.frames = [] → b ≤ a →
    execute (fuel + 1) a b s = some (.completed, { s with ip := a, result := some .completed })) ∧
  (∀ (s : State) (f : Fault), step s = .fault f → s.frames ≠ [] →
    (∃ calls, s.endFatal f = { s with frames := [], result := some (.fatal f), host := calls } ∧
      (HostActs s → calls = s.host.tail) ∧ (¬ HostActs s → calls = s.host)) ∧
    (∀ fuel, runToEnd (fuel + 1) s = some (.fatal f, s.endFatal f)) ∧
    ∀ a b h, (s.endFatal f).host = .execute a b :: h →
      session 2 s = some { s.endFatal f with ip := a, frames := [.run b], host := h }) ∧
  ∀ (fuel : Nat) (a b : Int) (s t : State) (f : Fault), s.frames = [] → execute fuel a b s = some (.fatal f, t) →
    ∃ n u, Host.Core.run Sys2Proof.core n (s.startRun a b) = .next u ∧ step u = .fault f ∧ t = u.endFatal f

/-- A fetch outside memory stops with `AddressOutOfRange`, whichever byte of whichever instruction lies there. At an `ip`
outside memory its address is `ip`. An instruction whose encoding runs past the end of memory (ModRM, displacement,
immediate, vector or jump displacement) stops with the address of the first field that is not all inside, and so does
every refusal of the decoder for a missing field; a conditional jump in the last byte of memory stops so, taken or not
(R43, R76, R92, R301, R344, R349; decisions D2, D6, D21). That a 16-bit field counts as one access and is reported with
its first address is log 18 (DEDUCED; test vector F14). -/
def Obligations.FetchOutsideMemoryFaults : Prop :=
  ∀ s : State, Running s →
    (s.ip < 0 ∨ (Config.memSize : Int) ≤ s.ip → step s = .fault (.addressOutOfRange s.ip)) ∧
    (s.ip = (Config.memSize : Int) - 1 → 0x70 ≤ (Memory.byte s.mem (Config.memSize - 1)).toNat →
      (Memory.byte s.mem (Config.memSize - 1)).toNat ≤ 0x7F → step s = .fault (.addressOutOfRange Config.memSize)) ∧
    (∀ k : Nat, decode s.fetchWindow = .error (.missing k) → step s = .fault (.addressOutOfRange (s.ip + k))) ∧
    ∀ (i : Instr) (n : Nat), i.wellFormed = true → 0 ≤ s.ip → s.ip.toNat + n = Config.memSize →
      n < (encode i).length → (∀ k, k < n → (encode i)[k]? = some (Memory.byte s.mem (s.ip.toNat + k))) →
      step s = .fault (.addressOutOfRange (s.ip + fieldStart (fieldsOf i) n))

/-- A byte without a handler is `UnimplementedOpcode` with the byte and its address, whatever follows it, and the
decoder refuses no other byte for its opcode (R119, R341; which bytes is decision D22). -/
def Obligations.UnimplementedOpcodeFaults : Prop :=
  (∀ s : State, Running s → 0 ≤ s.ip → s.ip < Config.memSize →
    implementedOpcode (Memory.byte s.mem s.ip.toNat) = false →
    step s = .fault (.unimplementedOpcode (Memory.byte s.mem s.ip.toNat) s.ip)) ∧
  (∀ (op : Byte) (rest : List Byte), decode (op :: rest) = .error (.opcode op) ↔ implementedOpcode op = false) ∧
  ((List.range 256).filter fun op => implementedOpcode (BitVec.ofNat 8 op)).length = 119

/-- 8Ch and 8Eh with reg 4 to 7, and C4h and C5h with mod 11, are `UnimplementedModRM` right after the ModRM byte, even
where the displacement would lie outside memory (R120, R342; decisions D12, D13). -/
def Obligations.UnimplementedModRMFaults : Prop :=
  ∀ (s : State) (op m : Byte), Running s → BytesAtIp s [op, m] →
    ((op = 0x8C ∨ op = 0x8E) ∧ 4 ≤ (m.extractLsb' 3 3).toNat) ∨ ((op = 0xC4 ∨ op = 0xC5) ∧ m.extractLsb' 6 2 = 3#2) →
    step s = .fault (.unimplementedModRM op m s.ip)

/-! ## The whole machine -/

/-- Every step keeps the invariant: memory and the interrupt table in canonical form, runs and services nested by
turns, AF, TF, IF and DF 0 (R48, R54, R70, R358; the canonical form is the model's, the zeros are decision D10). -/
def Obligations.StepKeepsTheInvariant : Prop := ∀ s t : State, s.Inv → step s = .next t → t.Inv

/-- The state at creation meets the invariant; every register, segment register, flag and memory byte is 0, no vector is
registered and no run is in progress (R66, R380; decision D5; the values of `ip` and of the model's own fields are log 3
and 4). -/
def Obligations.ResetStateMeetsTheInvariant : Prop :=
  State.reset.Inv ∧ (∀ r, State.reset.reg16 r = 0) ∧ (∀ r, State.reset.seg r = 0) ∧
  State.reset.flags = ⟨false, false, false, false, false, false, false, false, false⟩ ∧
  (∀ a, Memory.byte State.reset.mem a = 0) ∧ (∀ v, IntTable.lookup State.reset.intTable v = none) ∧
  State.reset.frames = [] ∧ State.reset.result = none ∧ State.reset.sink = [] ∧ State.reset.host = [] ∧ State.reset.ip = 0

/-- No step of the machine, of a program or of the host, writes AF, TF, IF or DF, and while a run or a service is in
progress none changes the interrupt table (R48, R54, R355; decisions D10, D25). -/
def Obligations.UnusedFlagsAndVectorsAreNotWritten : Prop :=
  ∀ s t : State, step s = .next t → UnusedFlagsSame s t ∧ (s.frames ≠ [] → t.intTable = s.intTable)

/-- An act of a service changes neither memory nor a flag, and only adds to the output (R355; decision D25). The act or
call of a service as a step of its own is the model's choice (log 5 and 6). -/
def Obligations.ServiceActsKeepMemoryAndFlags : Prop :=
  ∀ (s t : State) (intIp : Int) (act : Activation) (fs : List Frame), s.frames = .service intIp act :: fs →
    step s = .next t → t.mem = s.mem ∧ t.flags = s.flags ∧ ∃ out, t.sink = s.sink ++ out

/-- An instruction that is no jump, return or INT moves `ip` on by the length of its encoding (R44). -/
def Obligations.SequentialInstructionsAdvanceIp : Prop :=
  ∀ (i : Instr) (s t : State), sequential i = true → exec i s = .next t → t.ip = s.ip + (encode i).length

/-- Only two things stop an instruction that was fetched: an access whose bytes are not all inside memory, and an INT of
an unregistered vector; none is refused (R154, R340, R344; decision D2). -/
def Obligations.InstructionsStopOnlyForAddressOrVector : Prop :=
  ∀ (i : Instr) (s : State), (∀ r, exec i s ≠ .refused r) ∧
    ∀ f, exec i s = .fault f →
      (∃ p n : Nat, f = .addressOutOfRange p ∧ n ≤ 4 ∧ Config.memSize < p + n ∧ p ≤ 0x10FFEF) ∨
      (∃ v, i = .int v ∧ f = .unregisteredVector v s.ip)

/-- CS holds a value only: fetch does not read it, and an instruction that does not copy CS itself does the same for
every value of CS and leaves that value in place (R40, R42, R256). -/
def Obligations.CsHasNoOtherEffect : Prop :=
  ∀ (s : State) (v : Word), (s.setSeg .cs v).fetch = s.fetch ∧
    (∀ i : Instr, i ≠ .pushCs → (∀ dst, i ≠ .movRm16Sreg dst .cs) → (∀ src, i ≠ .movSregRm16 .cs src) →
      exec i (s.setSeg .cs v) = mapNext (·.setSeg .cs v) (exec i s)) ∧
    ∀ src, exec (.movSregRm16 .cs src) (s.setSeg .cs v) = exec (.movSregRm16 .cs src) s

/-! ## Registers -/

/-- `GPR8[i] = if i < 4 then GPR16[i][7:0] else GPR16[i-4][15:8]`, and a 16-bit read shows the latest 8-bit writes to
both halves (R33). -/
def Obligations.ByteViewRead : Prop :=
  (∀ (s : State) (i : BitVec 3), s.reg8 (Reg8.ofCode i) =
    if i.toNat < 4 then (s.reg16 (Reg16.ofCode i)).extractLsb' 0 8 else (s.reg16 (Reg16.ofCode (i - 4))).extractLsb' 8 8) ∧
  (∀ (s : State) (i : BitVec 3) (lo hi : Byte), i.toNat < 4 →
    ((s.setReg8 (Reg8.ofCode i) lo).setReg8 (Reg8.ofCode (i + 4)) hi).reg16 (Reg16.ofCode i) = hi ++ lo ∧
    ((s.setReg8 (Reg8.ofCode (i + 4)) hi).setReg8 (Reg8.ofCode i) lo).reg16 (Reg16.ofCode i) = hi ++ lo)

/-- An 8-bit write is the mask-and-OR of R34: the cell of the view gets the new byte and keeps the other half, and no
other cell changes (R34). -/
def Obligations.ByteViewWrite : Prop :=
  ∀ (s : State) (i : BitVec 3) (v : Byte),
    (i.toNat < 4 → (s.setReg8 (Reg8.ofCode i) v).reg16 (Reg16.ofCode i) =
      ((s.reg16 (Reg16.ofCode i) &&& 0xFF00#16) ||| v.setWidth 16)) ∧
    (4 ≤ i.toNat → (s.setReg8 (Reg8.ofCode i) v).reg16 (Reg16.ofCode (i - 4)) =
      ((s.reg16 (Reg16.ofCode (i - 4)) &&& 0x00FF#16) ||| (v.setWidth 16 <<< 8))) ∧
    (s.setReg8 (Reg8.ofCode i) v).reg8 (Reg8.ofCode i) = v ∧ RegsButView s (s.setReg8 (Reg8.ofCode i) v) (Reg8.ofCode i)

/-- A 16-bit write replaces the whole cell, both halves of cells 0 to 3 then read as the bytes written, and no other
register changes (R35). -/
def Obligations.WordRegisterWrite : Prop :=
  ∀ (s : State) (i : BitVec 3) (v : Word), (s.setReg16 (Reg16.ofCode i) v).reg16 (Reg16.ofCode i) = v ∧
    (i.toNat < 4 → (s.setReg16 (Reg16.ofCode i) v).reg8 (Reg8.ofCode i) = v.extractLsb' 0 8 ∧
      (s.setReg16 (Reg16.ofCode i) v).reg8 (Reg8.ofCode (i + 4)) = v.extractLsb' 8 8) ∧
    RegsBut s (s.setReg16 (Reg16.ofCode i) v) [Reg16.ofCode i]

/-! ## Memory -/

/-- `Phys(seg, off) = seg * 16 + off`, computed without truncation, in 0 .. 0x10FFEF (R72). -/
def Obligations.PhysicalAddress : Prop :=
  ∀ seg off : Word, phys seg off = seg.toNat * 16 + off.toNat ∧ phys seg off ≤ 0x10FFEF ∧
    phys 0xFFFF 0xFFFF = 0x10FFEF ∧ phys 0 0 = 0

/-- An access of 1, 2 or 4 bytes at P is legal when P + n ≤ 2^20, else it stops with `AddressOutOfRange(P)`; the address
is never wrapped (R76, R344; decision D2). -/
def Obligations.AccessRange : Prop :=
  ∀ (s : State) (p : Nat),
    s.read8 p = (if p + 1 ≤ Config.memSize then .ok (Memory.byte s.mem p) else .error (.addressOutOfRange p)) ∧
    s.read16 p = (if p + 2 ≤ Config.memSize then
      .ok (Memory.byte s.mem (p + 1) ++ Memory.byte s.mem p) else .error (.addressOutOfRange p)) ∧
    s.read32 p = (if p + 4 ≤ Config.memSize then
      .ok ((Memory.byte s.mem (p + 3) ++ Memory.byte s.mem (p + 2)) ++ (Memory.byte s.mem (p + 1) ++ Memory.byte s.mem p))
      else .error (.addressOutOfRange p)) ∧
    (∀ v, Config.memSize < p + 1 → s.write8 p v = .error (.addressOutOfRange p)) ∧
    ∀ v, Config.memSize < p + 2 → s.write16 p v = .error (.addressOutOfRange p)

/-- A write of a byte or a word inside memory sets exactly its bytes, low byte first, at any alignment, reads back as
the value written, and keeps the canonical form (R79, R80; decisions D1, D3). -/
def Obligations.LittleEndianWrite : Prop :=
  ∀ (s : State) (p : Nat), Memory.wf s.mem = true →
    (∀ v : Byte, p + 1 ≤ Config.memSize → ∃ t, s.write8 p v = .ok t ∧ Memory.wf t.mem = true ∧
      Memory.byte t.mem p = v ∧ MemoryBut s t p 1) ∧
    ∀ v : Word, p + 2 ≤ Config.memSize → ∃ t, s.write16 p v = .ok t ∧ Memory.wf t.mem = true ∧
      Memory.byte t.mem p = v.extractLsb' 0 8 ∧ Memory.byte t.mem (p + 1) = v.extractLsb' 8 8 ∧
      t.read16 p = .ok v ∧ MemoryBut s t p 2

/-! ## The ALU functions -/

/-- ADD and ADC of 8 and 16 bits: the result is the sum modulo 2^N, CF the unsigned carry, OF exact signed overflow, ZF,
SF and PF of the result (R140 to R142; ZF on the truncated result is decision D9). -/
def Obligations.AdditionResultAndFlags : Prop :=
  ∀ (n : Nat) (a b : BitVec n) (c : Bool) (op : AluOp), n = 8 ∨ n = 16 → op = .add ∨ op = .adc →
    let k : Nat := if op = .adc then c.toNat else 0
    let res := aluResult op a b c
    let fl := aluFlags op a b c
    res = a + b + BitVec.ofNat n k ∧ (fl.CF = true ↔ 2 ^ n ≤ a.toNat + b.toNat + k) ∧
    (fl.OF = true ↔ ¬ inSigned n (a.toInt + b.toInt + k)) ∧ (fl.ZF = true ↔ res = 0) ∧
    (fl.SF = true ↔ res.toInt < 0) ∧ fl.PF = evenLowByte res

/-- SUB, SBB and CMP of 8 and 16 bits: the result is the difference modulo 2^N, CF the unsigned borrow, OF exact signed
overflow, ZF, SF and PF of the result (R140, R143 to R145; decision D9). -/
def Obligations.SubtractionResultAndFlags : Prop :=
  ∀ (n : Nat) (a b : BitVec n) (c : Bool) (op : AluOp), n = 8 ∨ n = 16 → op = .sub ∨ op = .sbb ∨ op = .cmp →
    let k : Nat := if op = .sbb then c.toNat else 0
    let res := aluResult op a b c
    let fl := aluFlags op a b c
    res = a - b - BitVec.ofNat n k ∧ (fl.CF = true ↔ a.toNat < b.toNat + k) ∧
    (fl.OF = true ↔ ¬ inSigned n (a.toInt - b.toInt - k)) ∧ (fl.ZF = true ↔ res = 0) ∧
    (fl.SF = true ↔ res.toInt < 0) ∧ fl.PF = evenLowByte res

/-- AND, OR and XOR of 8 and 16 bits: the bitwise result, CF = 0, OF = 0, ZF, SF and PF of the result (R140, R146; OF = 0
is decision D9). -/
def Obligations.LogicResultAndFlags : Prop :=
  ∀ (n : Nat) (a b : BitVec n) (c : Bool) (op : AluOp), n = 8 ∨ n = 16 → op = .and ∨ op = .or ∨ op = .xor →
    let res := aluResult op a b c
    let fl := aluFlags op a b c
    (op = .and → res = a &&& b) ∧ (op = .or → res = a ||| b) ∧ (op = .xor → res = a ^^^ b) ∧
    fl.CF = false ∧ fl.OF = false ∧ (fl.ZF = true ↔ res = 0) ∧ (fl.SF = true ↔ res.toInt < 0) ∧ fl.PF = evenLowByte res

/-! ## The ALU instructions -/

/-- The eight operations in the forms `r/m8, r8`, `r/m16, r16`, `r8, r/m8` and `r16, r/m16` complete whenever the rm side
lies in a register or inside memory: the result is written to the destination (CMP: not), the flags are written and `ip`
moves on by `len_m`; both operands are read before the write (R150, R152, R161 to R164 and their like). -/
def Obligations.AluRegRmCompletes : Prop :=
  ∀ (op : AluOp) (s : State),
    (∀ dst src, fits8 s dst → exec (aluRm8R8 op dst src) s =
      .next (aluEffect op (value8 s dst) (s.reg8 src) dst.len (store8 s dst) s)) ∧
    (∀ dst src, fits16 s dst → exec (aluRm16R16 op dst src) s =
      .next (aluEffect op (value16 s dst) (s.reg16 src) dst.len (store16 s dst) s)) ∧
    (∀ dst src, fits8 s src → exec (aluR8Rm8 op dst src) s =
      .next (aluEffect op (s.reg8 dst) (value8 s src) src.len (s.setReg8 dst) s)) ∧
    ∀ dst src, fits16 s src → exec (aluR16Rm16 op dst src) s =
      .next (aluEffect op (s.reg16 dst) (value16 s src) src.len (s.setReg16 dst) s)

/-- The eight operations on AL and AX with an immediate complete from every state, lengths 2 and 3 (R160). -/
def Obligations.AluAccumulatorCompletes : Prop :=
  ∀ (op : AluOp) (s : State),
    (∀ imm, exec (aluAlImm8 op imm) s = .next (aluEffect op (s.reg8 .al) imm 2 (s.setReg8 .al) s)) ∧
    ∀ imm, exec (aluAxImm16 op imm) s = .next (aluEffect op (s.reg16 .ax) imm 3 (s.setReg16 .ax) s)

/-- The eight operations of each group opcode 80h, 81h and 83h complete whenever the rm side lies inside memory; 83h
sign-extends its immediate (R220; the lengths are decision D8). -/
def Obligations.AluGroupCompletes : Prop :=
  ∀ (op : AluOp) (s : State),
    (∀ dst imm, fits8 s dst → exec (aluRm8Imm8 op dst imm) s =
      .next (aluEffect op (value8 s dst) imm (dst.len + 1) (store8 s dst) s)) ∧
    (∀ dst imm, fits16 s dst → exec (aluRm16Imm16 op dst imm) s =
      .next (aluEffect op (value16 s dst) imm (dst.len + 2) (store16 s dst) s)) ∧
    ∀ dst imm, fits16 s dst → exec (aluRm16SImm8 op dst imm) s =
      .next (aluEffect op (value16 s dst) (BitVec.ofInt 16 imm.toInt) (dst.len + 1) (store16 s dst) s)

/-- FRAME of every ALU form with a register destination: only that register (CMP: none), the five computed flags and
`ip` change; every byte of memory reads as before (R38, R47, R147). -/
def Obligations.AluRegisterFrame : Prop :=
  ∀ (op : AluOp) (i : Instr) (s t : State), exec i s = .next t →
    (∀ r, AluInto8 op r i → (if op = .cmp then RegsBut s t [] else RegsButView s t r) ∧ SegsBut s t [] ∧
      UnusedFlagsSame s t ∧ MemorySame s t ∧ OutsideSame s t) ∧
    ∀ r, AluInto16 op r i → RegsBut s t (if op = .cmp then [] else [r]) ∧ SegsBut s t [] ∧
      UnusedFlagsSame s t ∧ MemorySame s t ∧ OutsideSame s t

/-- FRAME of every ALU form with a memory destination: no register changes; of memory only the byte or the word at the
operand's address, computed before the write, changes (CMP: no byte), and of the flags only the five computed ones (R47,
R79, R147, R150). -/
def Obligations.AluMemoryFrame : Prop :=
  ∀ (op : AluOp) (m : MemForm) (i : Instr) (s t : State), exec i s = .next t →
    (AluIntoMem8 op m i → RegsBut s t [] ∧ SegsBut s t [] ∧ UnusedFlagsSame s t ∧ OutsideSame s t ∧
      (if op = .cmp then MemorySame s t else MemoryBut s t (s.operandAddr m) 1)) ∧
    (AluIntoMem16 op m i → RegsBut s t [] ∧ SegsBut s t [] ∧ UnusedFlagsSame s t ∧ OutsideSame s t ∧
      (if op = .cmp then MemorySame s t else MemoryBut s t (s.operandAddr m) 2))

/-! ## Moves -/

/-- MOV with an immediate completes from every state: the register named takes the immediate, `ip` moves on by 2 or 3,
nothing else changes (R250, R251). -/
def Obligations.MovImmediateCompletes : Prop :=
  ∀ s : State,
    (∀ r v, exec (.movR8Imm8 r v) s = .next { s.setReg8 r v with ip := s.ip + 2 }) ∧
    ∀ r v, exec (.movR16Imm16 r v) s = .next { s.setReg16 r v with ip := s.ip + 3 }

/-- MOV between a general or segment register and a register or memory completes whenever the rm side lies in a register
or inside memory, with no flag written; CS is among the destinations (R252 to R257; decisions D11, D12). -/
def Obligations.MovRegRmCompletes : Prop :=
  ∀ s : State,
    (∀ dst src, fits8 s dst → exec (.movRm8R8 dst src) s = .next { store8 s dst (s.reg8 src) with ip := s.ip + dst.len }) ∧
    (∀ dst src, fits16 s dst →
      exec (.movRm16R16 dst src) s = .next { store16 s dst (s.reg16 src) with ip := s.ip + dst.len }) ∧
    (∀ dst src, fits8 s src → exec (.movR8Rm8 dst src) s = .next { s.setReg8 dst (value8 s src) with ip := s.ip + src.len }) ∧
    (∀ dst src, fits16 s src →
      exec (.movR16Rm16 dst src) s = .next { s.setReg16 dst (value16 s src) with ip := s.ip + src.len }) ∧
    (∀ dst sr, fits16 s dst → exec (.movRm16Sreg dst sr) s = .next { store16 s dst (s.seg sr) with ip := s.ip + dst.len }) ∧
    ∀ sr src, fits16 s src →
      exec (.movSregRm16 sr src) s = .next { s.setSeg sr (value16 s src) with ip := s.ip + src.len }

/-- LES and LDS complete whenever the four bytes at P lie inside memory: the word at P goes to the register, the word
at P + 2 to ES or DS. P comes from the registers as they stood before, also when the destination is one of its base
registers or DS its segment (R258, R259, R387). -/
def Obligations.FarPointerLoadCompletes : Prop :=
  ∀ (s : State) (dst : Reg16) (m : MemForm), s.operandAddr m + 4 ≤ Config.memSize →
    (∃ t, exec (.les dst m) s = .next t ∧ t.reg16 dst = Memory.word s.mem (s.operandAddr m) ∧
      t.seg .es = Memory.word s.mem (s.operandAddr m + 2) ∧ t.ip = s.ip + m.len ∧ SegsBut s t [.es] ∧
      RegsBut s t [dst] ∧ t.flags = s.flags ∧ t.mem = s.mem ∧ OutsideSame s t) ∧
    (∃ t, exec (.lds dst m) s = .next t ∧ t.reg16 dst = Memory.word s.mem (s.operandAddr m) ∧
      t.seg .ds = Memory.word s.mem (s.operandAddr m + 2) ∧ t.ip = s.ip + m.len ∧ SegsBut s t [.ds] ∧
      RegsBut s t [dst] ∧ t.flags = s.flags ∧ t.mem = s.mem ∧ OutsideSame s t)

/-- An ALU instruction or a move whose memory operand is not all inside memory stops with `AddressOutOfRange` of the
operand's address, whatever the operation; CMP too, and a MOV to memory counts as a read (R76, R154, R252 to R259, R344;
decisions D2, D29). -/
def Obligations.OperandOutsideMemoryFaults : Prop :=
  ∀ (s : State) (m : MemForm) (i : Instr),
    (Config.memSize < s.operandAddr m + 1 → (∃ op, AluIntoMem8 op m i) ∨ (∃ op r, i = aluR8Rm8 op r (.mem m)) ∨
      (∃ r, i = .movRm8R8 (.mem m) r) ∨ (∃ r, i = .movR8Rm8 r (.mem m)) →
      exec i s = .fault (.addressOutOfRange (s.operandAddr m))) ∧
    (Config.memSize < s.operandAddr m + 2 → (∃ op, AluIntoMem16 op m i) ∨ (∃ op r, i = aluR16Rm16 op r (.mem m)) ∨
      (∃ r, i = .movRm16R16 (.mem m) r) ∨ (∃ r, i = .movR16Rm16 r (.mem m)) ∨ (∃ sr, i = .movRm16Sreg (.mem m) sr) ∨
      (∃ sr, i = .movSregRm16 sr (.mem m)) → exec i s = .fault (.addressOutOfRange (s.operandAddr m))) ∧
    (Config.memSize < s.operandAddr m + 4 → (∃ r, i = .les r m) ∨ (∃ r, i = .lds r m) →
      exec i s = .fault (.addressOutOfRange (s.operandAddr m)))

/-- FRAME of the moves that store nothing: only the destination register (for LES and LDS also ES or DS) and `ip`
change; no flag and no byte of memory (R38, R50). -/
def Obligations.MoveRegisterFrame : Prop :=
  ∀ (i : Instr) (s t : State), exec i s = .next t →
    (∀ r, MovInto8 r i → RegsButView s t r ∧ SegsBut s t [] ∧ t.flags = s.flags ∧ MemorySame s t ∧ OutsideSame s t) ∧
    (∀ r, MovInto16 r i → RegsBut s t [r] ∧ SegsBut s t [] ∧ t.flags = s.flags ∧ MemorySame s t ∧ OutsideSame s t) ∧
    (∀ sr src, i = .movSregRm16 sr src →
      RegsBut s t [] ∧ SegsBut s t [sr] ∧ t.flags = s.flags ∧ MemorySame s t ∧ OutsideSame s t) ∧
    (∀ r m, i = .les r m →
      RegsBut s t [r] ∧ SegsBut s t [.es] ∧ t.flags = s.flags ∧ MemorySame s t ∧ OutsideSame s t) ∧
    ∀ r m, i = .lds r m →
      RegsBut s t [r] ∧ SegsBut s t [.ds] ∧ t.flags = s.flags ∧ MemorySame s t ∧ OutsideSame s t

/-- FRAME of the moves to memory: no register and no flag changes, and of memory only the byte or the word at the
operand's address (R50, R79, R252, R253, R256). -/
def Obligations.MoveMemoryFrame : Prop :=
  ∀ (m : MemForm) (i : Instr) (s t : State), exec i s = .next t →
    ((∃ src, i = .movRm8R8 (.mem m) src) → RegsBut s t [] ∧ SegsBut s t [] ∧ t.flags = s.flags ∧ OutsideSame s t ∧
      MemoryBut s t (s.operandAddr m) 1) ∧
    ((∃ src, i = .movRm16R16 (.mem m) src) ∨ (∃ sr, i = .movRm16Sreg (.mem m) sr) →
      RegsBut s t [] ∧ SegsBut s t [] ∧ t.flags = s.flags ∧ OutsideSame s t ∧ MemoryBut s t (s.operandAddr m) 2)

/-! ## The stack -/

/-- `PushValue` decrements SP by 2 first and then writes the word at SS:SP; `PopValue16` reads the word at SS:SP first
and then increments SP by 2, both modulo 2^16; SP points at the top word (R270). -/
def Obligations.StackEngine : Prop :=
  ∀ (s : State) (v : Word),
    (phys (s.seg .ss) (s.reg16 .sp - 2) + 2 ≤ Config.memSize → s.push v =
      .ok { s with gpr := { s.gpr with sp := s.gpr.sp - 2 },
                   mem := Memory.setWord s.mem (phys (s.seg .ss) (s.reg16 .sp - 2)) v }) ∧
    (phys (s.seg .ss) (s.reg16 .sp) + 2 ≤ Config.memSize → s.pop =
      .ok (Memory.word s.mem (phys (s.seg .ss) (s.reg16 .sp)), { s with gpr := { s.gpr with sp := s.gpr.sp + 2 } }))

/-- PUSH of every general and segment register completes whenever the word below the stack top lies inside memory: SP
moves down by 2, the old value of the register stands at SS:SP (PUSH SP: the SP before), `ip` + 1 (R274, R276 to R279;
decision D14). -/
def Obligations.PushCompletes : Prop :=
  ∀ s : State, slotBelow s 1 + 2 ≤ Config.memSize →
    (∀ r, exec (.pushR16 r) s = .next { s with
      gpr := s.gpr.set .sp (s.reg16 .sp - 2), mem := Memory.setWord s.mem (slotBelow s 1) (s.reg16 r), ip := s.ip + 1 }) ∧
    ∀ sr, exec (pushSeg sr) s = .next { s with
      gpr := s.gpr.set .sp (s.reg16 .sp - 2), mem := Memory.setWord s.mem (slotBelow s 1) (s.seg sr), ip := s.ip + 1 }

/-- POP of every general register and of ES, SS and DS completes whenever the top word lies inside memory: SP moves up
by 2, then the register takes the word (POP SP: SP is the word), `ip` + 1 (R275, R280 to R282; decision D14). -/
def Obligations.PopCompletes : Prop :=
  ∀ s : State, slotAbove s 0 + 2 ≤ Config.memSize →
    (∀ r, exec (.popR16 r) s = .next { s with
      gpr := (s.gpr.set .sp (s.reg16 .sp + 2)).set r (Memory.word s.mem (slotAbove s 0)), ip := s.ip + 1 }) ∧
    ∀ sr i, popSeg sr = some i → exec i s = .next { s with
      gpr := s.gpr.set .sp (s.reg16 .sp + 2), sreg := s.sreg.set sr (Memory.word s.mem (slotAbove s 0)), ip := s.ip + 1 }

/-- PUSHA completes whenever its eight words lie inside memory: SP moves down by 16 modulo 2^16, no other register
changes, and the slots hold AX, CX, DX, BX, the old SP, BP, SI, DI from the highest down (R283). -/
def Obligations.PushaCompletes : Prop :=
  ∀ s : State, (∀ k, 1 ≤ k → k ≤ 8 → slotBelow s k + 2 ≤ Config.memSize) →
    ∃ t, exec .pusha s = .next t ∧ t.reg16 .sp = s.reg16 .sp - 16 ∧ RegsBut s t [.sp] ∧ t.ip = s.ip + 1 ∧
      t.sreg = s.sreg ∧ t.flags = s.flags ∧ OutsideSame s t ∧
      (Memory.wf s.mem = true → ∀ k, k < 8 → Memory.word t.mem (slotBelow s (k + 1)) = s.reg16 (regOfIndex k)) ∧
      ∀ a, (∀ k, 1 ≤ k → k ≤ 8 → a ≠ slotBelow s k ∧ a ≠ slotBelow s k + 1) →
        Memory.byte t.mem a = Memory.byte s.mem a

/-- POPA completes whenever its eight words lie inside memory: DI, SI, BP, SP, BX, DX, CX, AX take the words from the
stack top up, SP its own slot, and nothing else but `ip` changes (R284; SP is decision D15). -/
def Obligations.PopaCompletes : Prop :=
  ∀ s : State, (∀ k, k < 8 → slotAbove s k + 2 ≤ Config.memSize) →
    ∃ t, exec .popa s = .next t ∧ (∀ k, k < 8 → t.reg16 (regOfIndex (7 - k)) = Memory.word s.mem (slotAbove s k)) ∧
      t.ip = s.ip + 1 ∧ t.sreg = s.sreg ∧ t.flags = s.flags ∧ t.mem = s.mem ∧ OutsideSame s t

/-- RET and RET imm16 complete whenever the top word lies inside memory: `ip` is that word as a physical index, CS not
read, and SP moves up by 2, or by 2 and the immediate modulo 2^16 (R286, R287). -/
def Obligations.ReturnCompletes : Prop :=
  ∀ s : State, slotAbove s 0 + 2 ≤ Config.memSize →
    exec .ret s = .next { s with
      gpr := s.gpr.set .sp (s.reg16 .sp + 2), ip := (Memory.word s.mem (slotAbove s 0)).toNat } ∧
    ∀ n, exec (.retImm16 n) s = .next { s with
      gpr := s.gpr.set .sp (s.reg16 .sp + 2 + n), ip := (Memory.word s.mem (slotAbove s 0)).toNat }

/-- A stack access that is not all inside memory stops with `AddressOutOfRange` of the first such word in the order of
the accesses (R271, R283, R284, R349; decisions D2, D21). -/
def Obligations.StackOutsideMemoryFaults : Prop :=
  ∀ s : State,
    (Config.memSize < slotBelow s 1 + 2 → (∀ r, exec (.pushR16 r) s = .fault (.addressOutOfRange (slotBelow s 1))) ∧
      ∀ sr, exec (pushSeg sr) s = .fault (.addressOutOfRange (slotBelow s 1))) ∧
    (Config.memSize < slotAbove s 0 + 2 → (∀ r, exec (.popR16 r) s = .fault (.addressOutOfRange (slotAbove s 0))) ∧
      (∀ sr i, popSeg sr = some i → exec i s = .fault (.addressOutOfRange (slotAbove s 0))) ∧
      exec .ret s = .fault (.addressOutOfRange (slotAbove s 0)) ∧
      ∀ n, exec (.retImm16 n) s = .fault (.addressOutOfRange (slotAbove s 0))) ∧
    (∀ k, 1 ≤ k → k ≤ 8 → (∀ j, 1 ≤ j → j < k → slotBelow s j + 2 ≤ Config.memSize) →
      Config.memSize < slotBelow s k + 2 → exec .pusha s = .fault (.addressOutOfRange (slotBelow s k))) ∧
    ∀ k, k < 8 → (∀ j, j < k → slotAbove s j + 2 ≤ Config.memSize) →
      Config.memSize < slotAbove s k + 2 → exec .popa s = .fault (.addressOutOfRange (slotAbove s k))

/-- PUSH then POP of the same register, SP too, leaves every register as it was and changes only the two bytes of the
word below the stack top; the memory is in canonical form, as in every state of a run (R275, R285; for SP decision D14). -/
def Obligations.PushPopRestores : Prop :=
  ∀ (r : Reg16) (s t : State), Memory.wf s.mem = true → exec (.pushR16 r) s = .next t →
    ∃ u, exec (.popR16 r) t = .next u ∧ u.gpr = s.gpr ∧ u.sreg = s.sreg ∧ u.flags = s.flags ∧ u.ip = s.ip + 2 ∧
      OutsideSame s u ∧ MemoryBut s u (slotBelow s 1) 2

/-- PUSHA followed by POPA restores all eight general registers, SP among them (R284, R285). -/
def Obligations.PushaPopaRestores : Prop :=
  ∀ s t : State, Memory.wf s.mem = true → exec .pusha s = .next t →
    ∃ u, exec .popa t = .next u ∧ u.gpr = s.gpr ∧ u.sreg = s.sreg ∧ u.flags = s.flags ∧ u.ip = s.ip + 2 ∧
      OutsideSame s u

/-- FRAME of the pushes: only SP, `ip` and the stored words change; the stored words of PUSH are the two bytes below the
stack top, those of PUSHA the eight words below it (R38, R50, R270, R283). -/
def Obligations.PushFrame : Prop :=
  ∀ (i : Instr) (s t : State), exec i s = .next t →
    ((∃ r, i = .pushR16 r) ∨ (∃ sr, i = pushSeg sr) → RegsBut s t [.sp] ∧ SegsBut s t [] ∧ t.flags = s.flags ∧
      OutsideSame s t ∧ MemoryBut s t (slotBelow s 1) 2) ∧
    (i = .pusha → RegsBut s t [.sp] ∧ SegsBut s t [] ∧ t.flags = s.flags ∧ OutsideSame s t ∧
      ∀ a, (∀ k, 1 ≤ k → k ≤ 8 → a < slotBelow s k ∨ slotBelow s k + 2 ≤ a) → Memory.byte t.mem a = Memory.byte s.mem a)

/-- FRAME of the pops and the returns, which store nothing: POP changes its register and SP, POPA the eight general
registers, a return SP; each changes `ip`, and none a flag or a byte of memory (R38, R50). -/
def Obligations.PopFrame : Prop :=
  ∀ (i : Instr) (s t : State), exec i s = .next t →
    (∀ r, i = .popR16 r → RegsBut s t [r, .sp] ∧ SegsBut s t [] ∧ t.flags = s.flags ∧ MemorySame s t ∧ OutsideSame s t) ∧
    (∀ sr, popSeg sr = some i →
      RegsBut s t [.sp] ∧ SegsBut s t [sr] ∧ t.flags = s.flags ∧ MemorySame s t ∧ OutsideSame s t) ∧
    (i = .popa → SegsBut s t [] ∧ t.flags = s.flags ∧ MemorySame s t ∧ OutsideSame s t) ∧
    (i = .ret ∨ (∃ n, i = .retImm16 n) →
      RegsBut s t [.sp] ∧ SegsBut s t [] ∧ t.flags = s.flags ∧ MemorySame s t ∧ OutsideSame s t)

/-! ## Conditional jumps -/

/-- Each of the sixteen jumps completes from every state, writing `ip` only: `ip + s_8(disp) + 2`, an exact integer, when
its condition on the flags holds, else `ip + 2` (R300, R301; the table of conditions is decision D16). -/
def Obligations.ConditionalJumpCompletes : Prop :=
  ∀ (s : State) (d : Byte),
    let go (c : Bool) : Host.Outcome State Fault Refusal :=
      .next { s with ip := if c then s.ip + d.toInt + 2 else s.ip + 2 }
    exec (.jo d) s = go s.flags.OF ∧ exec (.jno d) s = go (!s.flags.OF) ∧
    exec (.jb d) s = go s.flags.CF ∧ exec (.jae d) s = go (!s.flags.CF) ∧
    exec (.je d) s = go s.flags.ZF ∧ exec (.jne d) s = go (!s.flags.ZF) ∧
    exec (.jbe d) s = go (s.flags.CF || s.flags.ZF) ∧ exec (.ja d) s = go (!(s.flags.CF || s.flags.ZF)) ∧
    exec (.js d) s = go s.flags.SF ∧ exec (.jns d) s = go (!s.flags.SF) ∧
    exec (.jp d) s = go s.flags.PF ∧ exec (.jnp d) s = go (!s.flags.PF) ∧
    exec (.jl d) s = go (s.flags.SF ^^ s.flags.OF) ∧ exec (.jge d) s = go (!(s.flags.SF ^^ s.flags.OF)) ∧
    exec (.jle d) s = go (s.flags.ZF || (s.flags.SF ^^ s.flags.OF)) ∧
    exec (.jg d) s = go (!(s.flags.ZF || (s.flags.SF ^^ s.flags.OF)))

/-- After a comparison of two 8-bit or 16-bit values the unsigned conditions (B, BE, A, AE) order them as unsigned
numbers, the signed ones (L, LE, G, GE) as two's-complement numbers, and E is equality (R145, R148, R300; decisions D9,
D16). -/
def Obligations.ConditionsAfterCompare : Prop :=
  ∀ (n : Nat) (a b : BitVec n) (s : State), n = 8 ∨ n = 16 →
    let f := (s.setStatus (aluFlags .cmp a b s.flags.CF)).flags
    (Cond.holds f .e = true ↔ a = b) ∧ (Cond.holds f .ne = true ↔ a ≠ b) ∧
    (Cond.holds f .b = true ↔ a.toNat < b.toNat) ∧ (Cond.holds f .ae = true ↔ b.toNat ≤ a.toNat) ∧
    (Cond.holds f .be = true ↔ a.toNat ≤ b.toNat) ∧ (Cond.holds f .a = true ↔ b.toNat < a.toNat) ∧
    (Cond.holds f .l = true ↔ a.toInt < b.toInt) ∧ (Cond.holds f .ge = true ↔ b.toInt ≤ a.toInt) ∧
    (Cond.holds f .le = true ↔ a.toInt ≤ b.toInt) ∧ (Cond.holds f .g = true ↔ b.toInt < a.toInt)

/-! ## INT, services and the host -/

/-- INT of a registered vector calls its service, saving nothing in a register or on the stack and leaving `ip` at the
INT; INT of an unregistered vector stops with `UnregisteredVector` (R330, R332, R343; the payload is decision D21, the
frame that remembers the INT is log 6). -/
def Obligations.IntCallsTheRegisteredService : Prop :=
  ∀ (v : Byte) (s : State),
    (∀ svc, IntTable.lookup s.intTable v = some svc →
      exec (.int v) s = .next { s with frames := .service s.ip svc.start :: s.frames }) ∧
    (IntTable.lookup s.intTable v = none → exec (.int v) s = .fault (.unregisteredVector v s.ip))

/-- What a callback returns: Continue completes its INT with `ip` at the address of that INT + 2, whatever nested runs
left in `ip`; Exit ends every enclosing run as Exited with `ip` as it stands; a fatal ends every enclosing run as Fatal
with the same reason (R330, R358; decisions D17, D18, D28). The model's choices: the return is one call of the list of the
host's calls (log 5), made in a step of its own (log 6), the result is recorded in the field `result` (log 15), and a
fatal is the fault of a step (log 8). -/
def Obligations.CallbackReturn : Prop :=
  ∀ (s : State) (intIp : Int) (id : Nat) (fs : List Frame) (h : List HostCall),
    s.frames = .service intIp (.callback id) :: fs →
    (s.host = .ret .resume :: h → step s = .next { s with ip := intIp + 2, frames := fs, host := h }) ∧
    (s.host = .ret .exit :: h → step s = .next { s with frames := [], result := some .exited, host := h }) ∧
    ∀ e, s.host = .ret (.fatal e) :: h →
      step s = .fault e ∧ s.endFatal e = { s with frames := [], result := some (.fatal e), host := h }

/-- Registering a handler for `v` and executing `INT v` invokes it exactly once and advances `ip` by 2: two steps of the
machine when the callback returns at once, one call of the host used (R331, R357; log 5 and 6). -/
def Obligations.IntInvokesOnceAndAdvances : Prop :=
  ∀ (s : State) (v : Byte) (id : Nat) (h : List HostCall), Running s → BytesAtIp s [0xCD, v] →
    IntTable.lookup s.intTable v = some (.callback id) → s.host = .ret .resume :: h →
    Host.Core.run Sys2Proof.core 2 s = .next { s with ip := s.ip + 2, host := h }

/-- `Execute(ipStart, ipEnd)` changes only `ip` before its first step, also when a service calls it: registers, segment
registers, flags, memory and the interrupt table keep their values (R382; the new run on the list of frames is R55). The
model's choices: `Execute` is one call of the list of the host's calls (log 5), made in a step of its own (log 6), and
the last result stays recorded in the field `result` (log 15). -/
def Obligations.ExecuteChangesOnlyIp : Prop :=
  ∀ (s : State) (a b : Int) (h : List HostCall), HostActs s → s.host = .execute a b :: h →
    step s = .next { s with ip := a, frames := .run b :: s.frames, host := h }

/-- The host's accessors, between runs and in a callback. A write sets exactly the register named, and a segment register
reads back as written with the other three unchanged (R39, R61). A read of a register changes nothing. `GetInDs` of an
offset whose byte `DS:off` lies inside memory changes nothing; outside it stops with `AddressOutOfRange` of that byte
(R62; decision D30). The model's choices: the accessors are calls of the list of the host's calls (log 5), each made in
a step of its own (log 6), and a read leaves no trace but the call taken (log 14). -/
def Obligations.HostRegisterAccessors : Prop :=
  ∀ (s : State) (h : List HostCall), HostActs s →
    (∀ r v, s.host = .setReg8 r v :: h → step s = .next { s with gpr := s.gpr.set8 r v, host := h }) ∧
    (∀ r v, s.host = .setReg16 r v :: h → step s = .next { s with gpr := s.gpr.set r v, host := h }) ∧
    (∀ r v, s.host = .setSeg r v :: h → step s = .next { s with sreg := s.sreg.set r v, host := h }) ∧
    (∀ r v, (s.setSeg r v).seg r = v ∧ SegsBut s (s.setSeg r v) [r]) ∧
    (∀ c, (∃ r, c = .getReg8 r) ∨ (∃ r, c = .getReg16 r) ∨ (∃ r, c = .getSeg r) → s.host = c :: h →
      step s = .next { s with host := h }) ∧
    ∀ off, s.host = .getInDs off :: h →
      (phys (s.seg .ds) off + 1 ≤ Config.memSize → step s = .next { s with host := h }) ∧
      (Config.memSize < phys (s.seg .ds) off + 1 → step s = .fault (.addressOutOfRange (phys (s.seg .ds) off)) ∧
        (s.endFatal (.addressOutOfRange (phys (s.seg .ds) off))).host = h)

/-- `SetInterruptHandler(v, svc)` between runs sets the entry of `v` and no other; during a service it is refused (R54,
R63). The refusal is log 9; the call as one step from the list of the host's calls is log 5 and 6. -/
def Obligations.SetInterruptHandlerSetsOneVector : Prop :=
  ∀ (s : State) (v : Byte) (svc : Service) (h : List HostCall), s.host = .setInterruptHandler v svc :: h →
    (s.frames = [] → ∃ t, step s = .next t ∧ IntTable.lookup t.intTable v = some svc ∧
      (∀ w, w ≠ v → IntTable.lookup t.intTable w = IntTable.lookup s.intTable w) ∧
      t = { s with intTable := t.intTable, host := h }) ∧
    ∀ intIp id fs, s.frames = .service intIp (.callback id) :: fs → step s = .refused .hostCallOutOfPlace

/-- The COM-style launch from the core at creation: after the host's six calls the image stands at 0x100, CS = SS = 0,
SP = 0x00FE, every other register and flag is 0, vector 21h alone is registered, and the run `Execute(0x100, 65536)` is
about to fetch at 0x100 (R383; decisions D5, D19). The launch as six calls of the list of the host's calls, each made in a
step of its own, is the model's choice (log 2, 5 and 6). -/
def Obligations.ComLaunch : Prop :=
  ∀ image : List Byte, 0x100 + image.length ≤ Config.memSize →
    ∃ t, Host.Core.run Sys2Proof.core 6 { State.reset with host := comLaunch image } = .next t ∧
      (∀ k, k < image.length → some (Memory.byte t.mem (0x100 + k)) = image[k]?) ∧
      (∀ a, a < 0x100 ∨ 0x100 + image.length ≤ a → Memory.byte t.mem a = 0) ∧
      t.gpr = { State.reset.gpr with sp := 0x00FE } ∧ t.sreg = ⟨0, 0, 0, 0⟩ ∧ t.flags = State.reset.flags ∧
      (∀ v, IntTable.lookup t.intTable v = if v = 0x21 then some .dos21 else none) ∧ t.ip = 0x100 ∧
      t.frames = [.run 65536] ∧ t.host = [] ∧ t.sink = []

/-- INT 21h with AH = 4Ch ends every enclosing run as Exited in two steps, with `ip` still at the INT and no register,
flag or byte changed; with any AH but 09h and 4Ch the service stops with `UnimplementedService` (R364, R366; decisions
D18, D19, D28). The model's choices: the count of steps, one for the INT and one for the dispatch (log 6), the result
recorded in the field `result` (log 15), and a fatal as the fault of a step (log 8). -/
def Obligations.Int21Terminate : Prop :=
  ∀ s : State, Running s → BytesAtIp s [0xCD, 0x21] → IntTable.lookup s.intTable 0x21 = some .dos21 →
    (s.reg8 .ah = 0x4C → Host.Core.run Sys2Proof.core 2 s = .next { s with frames := [], result := some .exited }) ∧
    (s.reg8 .ah ≠ 0x4C → s.reg8 .ah ≠ 0x09 →
      Host.Core.run Sys2Proof.core 2 s = .fault (.unimplementedService (s.reg8 .ah)))

/-- INT 21h with AH = 09h writes the string at DS:DX up to, and without, its `$` to the sink and completes with `ip` + 2,
changing no register, flag or byte: offsets wrap modulo 2^16, and the steps are one for the INT, one for the dispatch,
one for each byte and one for the `$`. A string byte outside memory stops the service with `AddressOutOfRange` of that
byte (R62, R362, R363; decisions D20, D30; the steps are log 6). -/
def Obligations.Int21WritesTheString : Prop :=
  (∀ (s : State) (text : List Byte), Running s → BytesAtIp s [0xCD, 0x21] →
    IntTable.lookup s.intTable 0x21 = some .dos21 → s.reg8 .ah = 0x09 → (0x24 : Byte) ∉ text →
    (∀ k, k ≤ text.length → phys (s.seg .ds) (s.reg16 .dx + BitVec.ofNat 16 k) + 1 ≤ Config.memSize ∧
      some (Memory.byte s.mem (phys (s.seg .ds) (s.reg16 .dx + BitVec.ofNat 16 k))) = (text ++ [0x24])[k]?) →
    Host.Core.run Sys2Proof.core (text.length + 3) s = .next { s with ip := s.ip + 2, sink := s.sink ++ text }) ∧
  ∀ (s : State) (intIp : Int) (off : Word) (fs : List Frame), s.frames = .service intIp (.dosString off) :: fs →
    Config.memSize < phys (s.seg .ds) off + 1 → step s = .fault (.addressOutOfRange (phys (s.seg .ds) off))

end SliceStatements
end

