-- ==== Sys2Proof/Laws/State.lean ====
section
/-!
SUPPORT. The small lemmas of the state: one per field per update, and what each register accessor reads after each
register update.
-/

namespace Sys2Proof.Machine

/-! ## Fields of updated states -/

@[simp] theorem State.setReg16_gpr (s : State) (r : Reg16) (v : Word) : (s.setReg16 r v).gpr = s.gpr.set r v := rfl
@[simp] theorem State.setReg16_sreg (s : State) (r : Reg16) (v : Word) : (s.setReg16 r v).sreg = s.sreg := rfl
@[simp] theorem State.setReg16_flags (s : State) (r : Reg16) (v : Word) : (s.setReg16 r v).flags = s.flags := rfl
@[simp] theorem State.setReg16_ip (s : State) (r : Reg16) (v : Word) : (s.setReg16 r v).ip = s.ip := rfl
@[simp] theorem State.setReg16_mem (s : State) (r : Reg16) (v : Word) : (s.setReg16 r v).mem = s.mem := rfl
@[simp] theorem State.setReg16_intTable (s : State) (r : Reg16) (v : Word) : (s.setReg16 r v).intTable = s.intTable := rfl
@[simp] theorem State.setReg16_frames (s : State) (r : Reg16) (v : Word) : (s.setReg16 r v).frames = s.frames := rfl
@[simp] theorem State.setReg16_result (s : State) (r : Reg16) (v : Word) : (s.setReg16 r v).result = s.result := rfl
@[simp] theorem State.setReg16_sink (s : State) (r : Reg16) (v : Word) : (s.setReg16 r v).sink = s.sink := rfl
@[simp] theorem State.setReg16_host (s : State) (r : Reg16) (v : Word) : (s.setReg16 r v).host = s.host := rfl

@[simp] theorem State.setReg8_gpr (s : State) (r : Reg8) (v : Byte) : (s.setReg8 r v).gpr = s.gpr.set8 r v := rfl
@[simp] theorem State.setReg8_sreg (s : State) (r : Reg8) (v : Byte) : (s.setReg8 r v).sreg = s.sreg := rfl
@[simp] theorem State.setReg8_flags (s : State) (r : Reg8) (v : Byte) : (s.setReg8 r v).flags = s.flags := rfl
@[simp] theorem State.setReg8_ip (s : State) (r : Reg8) (v : Byte) : (s.setReg8 r v).ip = s.ip := rfl
@[simp] theorem State.setReg8_mem (s : State) (r : Reg8) (v : Byte) : (s.setReg8 r v).mem = s.mem := rfl
@[simp] theorem State.setReg8_intTable (s : State) (r : Reg8) (v : Byte) : (s.setReg8 r v).intTable = s.intTable := rfl
@[simp] theorem State.setReg8_frames (s : State) (r : Reg8) (v : Byte) : (s.setReg8 r v).frames = s.frames := rfl
@[simp] theorem State.setReg8_result (s : State) (r : Reg8) (v : Byte) : (s.setReg8 r v).result = s.result := rfl
@[simp] theorem State.setReg8_sink (s : State) (r : Reg8) (v : Byte) : (s.setReg8 r v).sink = s.sink := rfl
@[simp] theorem State.setReg8_host (s : State) (r : Reg8) (v : Byte) : (s.setReg8 r v).host = s.host := rfl

@[simp] theorem State.setSeg_gpr (s : State) (r : SReg) (v : Word) : (s.setSeg r v).gpr = s.gpr := rfl
@[simp] theorem State.setSeg_sreg (s : State) (r : SReg) (v : Word) : (s.setSeg r v).sreg = s.sreg.set r v := rfl
@[simp] theorem State.setSeg_flags (s : State) (r : SReg) (v : Word) : (s.setSeg r v).flags = s.flags := rfl
@[simp] theorem State.setSeg_ip (s : State) (r : SReg) (v : Word) : (s.setSeg r v).ip = s.ip := rfl
@[simp] theorem State.setSeg_mem (s : State) (r : SReg) (v : Word) : (s.setSeg r v).mem = s.mem := rfl
@[simp] theorem State.setSeg_intTable (s : State) (r : SReg) (v : Word) : (s.setSeg r v).intTable = s.intTable := rfl
@[simp] theorem State.setSeg_frames (s : State) (r : SReg) (v : Word) : (s.setSeg r v).frames = s.frames := rfl
@[simp] theorem State.setSeg_result (s : State) (r : SReg) (v : Word) : (s.setSeg r v).result = s.result := rfl
@[simp] theorem State.setSeg_sink (s : State) (r : SReg) (v : Word) : (s.setSeg r v).sink = s.sink := rfl
@[simp] theorem State.setSeg_host (s : State) (r : SReg) (v : Word) : (s.setSeg r v).host = s.host := rfl

@[simp] theorem State.setStatus_gpr (s : State) (f : StatusFlags) : (s.setStatus f).gpr = s.gpr := rfl
@[simp] theorem State.setStatus_sreg (s : State) (f : StatusFlags) : (s.setStatus f).sreg = s.sreg := rfl
@[simp] theorem State.setStatus_flags (s : State) (f : StatusFlags) : (s.setStatus f).flags = { s.flags with CF := f.CF, PF := f.PF, ZF := f.ZF, SF := f.SF, OF := f.OF } := rfl
@[simp] theorem State.setStatus_ip (s : State) (f : StatusFlags) : (s.setStatus f).ip = s.ip := rfl
@[simp] theorem State.setStatus_mem (s : State) (f : StatusFlags) : (s.setStatus f).mem = s.mem := rfl
@[simp] theorem State.setStatus_intTable (s : State) (f : StatusFlags) : (s.setStatus f).intTable = s.intTable := rfl
@[simp] theorem State.setStatus_frames (s : State) (f : StatusFlags) : (s.setStatus f).frames = s.frames := rfl
@[simp] theorem State.setStatus_result (s : State) (f : StatusFlags) : (s.setStatus f).result = s.result := rfl
@[simp] theorem State.setStatus_sink (s : State) (f : StatusFlags) : (s.setStatus f).sink = s.sink := rfl
@[simp] theorem State.setStatus_host (s : State) (f : StatusFlags) : (s.setStatus f).host = s.host := rfl

@[simp] theorem State.setIp_gpr (s : State) (target : Int) : (s.setIp target).gpr = s.gpr := rfl
@[simp] theorem State.setIp_sreg (s : State) (target : Int) : (s.setIp target).sreg = s.sreg := rfl
@[simp] theorem State.setIp_flags (s : State) (target : Int) : (s.setIp target).flags = s.flags := rfl
@[simp] theorem State.setIp_ip (s : State) (target : Int) : (s.setIp target).ip = target := rfl
@[simp] theorem State.setIp_mem (s : State) (target : Int) : (s.setIp target).mem = s.mem := rfl
@[simp] theorem State.setIp_intTable (s : State) (target : Int) : (s.setIp target).intTable = s.intTable := rfl
@[simp] theorem State.setIp_frames (s : State) (target : Int) : (s.setIp target).frames = s.frames := rfl
@[simp] theorem State.setIp_result (s : State) (target : Int) : (s.setIp target).result = s.result := rfl
@[simp] theorem State.setIp_sink (s : State) (target : Int) : (s.setIp target).sink = s.sink := rfl
@[simp] theorem State.setIp_host (s : State) (target : Int) : (s.setIp target).host = s.host := rfl

@[simp] theorem State.advance_gpr (s : State) (len : Nat) : (s.advance len).gpr = s.gpr := rfl
@[simp] theorem State.advance_sreg (s : State) (len : Nat) : (s.advance len).sreg = s.sreg := rfl
@[simp] theorem State.advance_flags (s : State) (len : Nat) : (s.advance len).flags = s.flags := rfl
@[simp] theorem State.advance_ip (s : State) (len : Nat) : (s.advance len).ip = s.ip + len := rfl
@[simp] theorem State.advance_mem (s : State) (len : Nat) : (s.advance len).mem = s.mem := rfl
@[simp] theorem State.advance_intTable (s : State) (len : Nat) : (s.advance len).intTable = s.intTable := rfl
@[simp] theorem State.advance_frames (s : State) (len : Nat) : (s.advance len).frames = s.frames := rfl
@[simp] theorem State.advance_result (s : State) (len : Nat) : (s.advance len).result = s.result := rfl
@[simp] theorem State.advance_sink (s : State) (len : Nat) : (s.advance len).sink = s.sink := rfl
@[simp] theorem State.advance_host (s : State) (len : Nat) : (s.advance len).host = s.host := rfl

@[simp] theorem State.setMem_gpr (s : State) (m : Memory) : (s.setMem m).gpr = s.gpr := rfl
@[simp] theorem State.setMem_sreg (s : State) (m : Memory) : (s.setMem m).sreg = s.sreg := rfl
@[simp] theorem State.setMem_flags (s : State) (m : Memory) : (s.setMem m).flags = s.flags := rfl
@[simp] theorem State.setMem_ip (s : State) (m : Memory) : (s.setMem m).ip = s.ip := rfl
@[simp] theorem State.setMem_mem (s : State) (m : Memory) : (s.setMem m).mem = m := rfl
@[simp] theorem State.setMem_intTable (s : State) (m : Memory) : (s.setMem m).intTable = s.intTable := rfl
@[simp] theorem State.setMem_frames (s : State) (m : Memory) : (s.setMem m).frames = s.frames := rfl
@[simp] theorem State.setMem_result (s : State) (m : Memory) : (s.setMem m).result = s.result := rfl
@[simp] theorem State.setMem_sink (s : State) (m : Memory) : (s.setMem m).sink = s.sink := rfl
@[simp] theorem State.setMem_host (s : State) (m : Memory) : (s.setMem m).host = s.host := rfl

@[simp] theorem State.startRun_gpr (s : State) (a b : Int) : (s.startRun a b).gpr = s.gpr := rfl
@[simp] theorem State.startRun_sreg (s : State) (a b : Int) : (s.startRun a b).sreg = s.sreg := rfl
@[simp] theorem State.startRun_flags (s : State) (a b : Int) : (s.startRun a b).flags = s.flags := rfl
@[simp] theorem State.startRun_ip (s : State) (a b : Int) : (s.startRun a b).ip = a := rfl
@[simp] theorem State.startRun_mem (s : State) (a b : Int) : (s.startRun a b).mem = s.mem := rfl
@[simp] theorem State.startRun_intTable (s : State) (a b : Int) : (s.startRun a b).intTable = s.intTable := rfl
@[simp] theorem State.startRun_frames (s : State) (a b : Int) : (s.startRun a b).frames = .run b :: s.frames := rfl
@[simp] theorem State.startRun_result (s : State) (a b : Int) : (s.startRun a b).result = s.result := rfl
@[simp] theorem State.startRun_sink (s : State) (a b : Int) : (s.startRun a b).sink = s.sink := rfl
@[simp] theorem State.startRun_host (s : State) (a b : Int) : (s.startRun a b).host = s.host := rfl

@[simp] theorem State.endAll_gpr (s : State) (r : RunResult) : (s.endAll r).gpr = s.gpr := rfl
@[simp] theorem State.endAll_sreg (s : State) (r : RunResult) : (s.endAll r).sreg = s.sreg := rfl
@[simp] theorem State.endAll_flags (s : State) (r : RunResult) : (s.endAll r).flags = s.flags := rfl
@[simp] theorem State.endAll_ip (s : State) (r : RunResult) : (s.endAll r).ip = s.ip := rfl
@[simp] theorem State.endAll_mem (s : State) (r : RunResult) : (s.endAll r).mem = s.mem := rfl
@[simp] theorem State.endAll_intTable (s : State) (r : RunResult) : (s.endAll r).intTable = s.intTable := rfl
@[simp] theorem State.endAll_frames (s : State) (r : RunResult) : (s.endAll r).frames = [] := rfl
@[simp] theorem State.endAll_result (s : State) (r : RunResult) : (s.endAll r).result = some r := rfl
@[simp] theorem State.endAll_sink (s : State) (r : RunResult) : (s.endAll r).sink = s.sink := rfl
@[simp] theorem State.endAll_host (s : State) (r : RunResult) : (s.endAll r).host = s.host := rfl

@[simp] theorem State.endFatal_gpr (s : State) (e : Fault) : (s.endFatal e).gpr = s.gpr := rfl
@[simp] theorem State.endFatal_sreg (s : State) (e : Fault) : (s.endFatal e).sreg = s.sreg := rfl
@[simp] theorem State.endFatal_flags (s : State) (e : Fault) : (s.endFatal e).flags = s.flags := rfl
@[simp] theorem State.endFatal_ip (s : State) (e : Fault) : (s.endFatal e).ip = s.ip := rfl
@[simp] theorem State.endFatal_mem (s : State) (e : Fault) : (s.endFatal e).mem = s.mem := rfl
@[simp] theorem State.endFatal_intTable (s : State) (e : Fault) : (s.endFatal e).intTable = s.intTable := rfl
@[simp] theorem State.endFatal_frames (s : State) (e : Fault) : (s.endFatal e).frames = [] := rfl
@[simp] theorem State.endFatal_sink (s : State) (e : Fault) : (s.endFatal e).sink = s.sink := rfl

/-- Whose turn it is, in terms of the innermost frame. -/
theorem State.hostTurn_iff (s : State) :
    s.hostTurn = true ↔ s.frames = [] ∨ ∃ intIp id fs, s.frames = .service intIp (.callback id) :: fs := by
  unfold State.hostTurn
  split <;> simp_all

/-- A fatal of a run is its result. -/
theorem State.endFatal_result_of_run {s : State} (h : s.frames ≠ []) (e : Fault) :
    (s.endFatal e).result = some (.fatal e) := if_neg h

/-- Between runs there is no run to give a result. -/
theorem State.endFatal_result_of_idle {s : State} (h : s.frames = []) (e : Fault) : (s.endFatal e).result = s.result :=
  if_pos h

/-- The call that raised the fatal has been made. -/
theorem State.endFatal_host_of_turn {s : State} (h : s.hostTurn = true) (e : Fault) :
    (s.endFatal e).host = s.host.tail := if_pos h

/-- A fatal of an instruction or of `Dos21` takes no call. -/
theorem State.endFatal_host_of_core {s : State} (h : s.hostTurn = false) (e : Fault) : (s.endFatal e).host = s.host := by
  simp [State.endFatal, h]

@[simp] theorem State.enterService_gpr (s : State) (svc : Service) : (s.enterService svc).gpr = s.gpr := rfl
@[simp] theorem State.enterService_sreg (s : State) (svc : Service) : (s.enterService svc).sreg = s.sreg := rfl
@[simp] theorem State.enterService_flags (s : State) (svc : Service) : (s.enterService svc).flags = s.flags := rfl
@[simp] theorem State.enterService_ip (s : State) (svc : Service) : (s.enterService svc).ip = s.ip := rfl
@[simp] theorem State.enterService_mem (s : State) (svc : Service) : (s.enterService svc).mem = s.mem := rfl
@[simp] theorem State.enterService_intTable (s : State) (svc : Service) : (s.enterService svc).intTable = s.intTable := rfl
@[simp] theorem State.enterService_frames (s : State) (svc : Service) : (s.enterService svc).frames = .service s.ip svc.start :: s.frames := rfl
@[simp] theorem State.enterService_result (s : State) (svc : Service) : (s.enterService svc).result = s.result := rfl
@[simp] theorem State.enterService_sink (s : State) (svc : Service) : (s.enterService svc).sink = s.sink := rfl
@[simp] theorem State.enterService_host (s : State) (svc : Service) : (s.enterService svc).host = s.host := rfl

@[simp] theorem State.resumeAfterInt_gpr (s : State) (intIp : Int) : (s.resumeAfterInt intIp).gpr = s.gpr := rfl
@[simp] theorem State.resumeAfterInt_sreg (s : State) (intIp : Int) : (s.resumeAfterInt intIp).sreg = s.sreg := rfl
@[simp] theorem State.resumeAfterInt_flags (s : State) (intIp : Int) : (s.resumeAfterInt intIp).flags = s.flags := rfl
@[simp] theorem State.resumeAfterInt_ip (s : State) (intIp : Int) : (s.resumeAfterInt intIp).ip = intIp + 2 := rfl
@[simp] theorem State.resumeAfterInt_mem (s : State) (intIp : Int) : (s.resumeAfterInt intIp).mem = s.mem := rfl
@[simp] theorem State.resumeAfterInt_intTable (s : State) (intIp : Int) : (s.resumeAfterInt intIp).intTable = s.intTable := rfl
@[simp] theorem State.resumeAfterInt_frames (s : State) (intIp : Int) : (s.resumeAfterInt intIp).frames = s.frames.tail := rfl
@[simp] theorem State.resumeAfterInt_result (s : State) (intIp : Int) : (s.resumeAfterInt intIp).result = s.result := rfl
@[simp] theorem State.resumeAfterInt_sink (s : State) (intIp : Int) : (s.resumeAfterInt intIp).sink = s.sink := rfl
@[simp] theorem State.resumeAfterInt_host (s : State) (intIp : Int) : (s.resumeAfterInt intIp).host = s.host := rfl

@[simp] theorem State.setActivation_gpr (s : State) (intIp : Int) (act : Activation) : (s.setActivation intIp act).gpr = s.gpr := rfl
@[simp] theorem State.setActivation_sreg (s : State) (intIp : Int) (act : Activation) : (s.setActivation intIp act).sreg = s.sreg := rfl
@[simp] theorem State.setActivation_flags (s : State) (intIp : Int) (act : Activation) : (s.setActivation intIp act).flags = s.flags := rfl
@[simp] theorem State.setActivation_ip (s : State) (intIp : Int) (act : Activation) : (s.setActivation intIp act).ip = s.ip := rfl
@[simp] theorem State.setActivation_mem (s : State) (intIp : Int) (act : Activation) : (s.setActivation intIp act).mem = s.mem := rfl
@[simp] theorem State.setActivation_intTable (s : State) (intIp : Int) (act : Activation) : (s.setActivation intIp act).intTable = s.intTable := rfl
@[simp] theorem State.setActivation_frames (s : State) (intIp : Int) (act : Activation) : (s.setActivation intIp act).frames = .service intIp act :: s.frames.tail := rfl
@[simp] theorem State.setActivation_result (s : State) (intIp : Int) (act : Activation) : (s.setActivation intIp act).result = s.result := rfl
@[simp] theorem State.setActivation_sink (s : State) (intIp : Int) (act : Activation) : (s.setActivation intIp act).sink = s.sink := rfl
@[simp] theorem State.setActivation_host (s : State) (intIp : Int) (act : Activation) : (s.setActivation intIp act).host = s.host := rfl

/-! ## Registers after a register write -/

@[simp] theorem Gpr.get_set_self (g : Gpr) (r : Reg16) (v : Word) : (g.set r v).get r = v := by cases r <;> rfl

theorem Gpr.get_set_ne (g : Gpr) {r q : Reg16} (v : Word) (h : q ≠ r) : (g.set r v).get q = g.get q := by
  cases r <;> cases q <;> first | rfl | exact absurd rfl h

@[simp] theorem Segs.get_set_self (g : Segs) (r : SReg) (v : Word) : (g.set r v).get r = v := by cases r <;> rfl

theorem Segs.get_set_ne (g : Segs) {r q : SReg} (v : Word) (h : q ≠ r) : (g.set r v).get q = g.get q := by
  cases r <;> cases q <;> first | rfl | exact absurd rfl h

/-- Two register files that read the same at every index are the same. -/
theorem Gpr.ext_get {g h : Gpr} (e : ∀ r, g.get r = h.get r) : g = h := by
  cases g; cases h
  have := e .ax; have := e .cx; have := e .dx; have := e .bx
  have := e .sp; have := e .bp; have := e .si; have := e .di
  simp_all [Gpr.get]

/-! ## The bytes of a word -/

theorem getLsbD_wordOfBytes (lo hi : Byte) (i : Nat) :
    (wordOfBytes lo hi).getLsbD i = if i < 8 then lo.getLsbD i else hi.getLsbD (i - 8) := by
  show (hi ++ lo).getLsbD i = _
  rw [BitVec.getLsbD_append]

theorem getLsbD_lowByte (w : Word) (i : Nat) : (lowByte w).getLsbD i = (decide (i < 8) && w.getLsbD i) := by
  simp only [lowByte, BitVec.getLsbD_extractLsb', Nat.zero_add]

theorem getLsbD_highByte (w : Word) (i : Nat) : (highByte w).getLsbD i = (decide (i < 8) && w.getLsbD (8 + i)) := by
  simp only [highByte, BitVec.getLsbD_extractLsb']

@[simp] theorem wordOfBytes_low_high (w : Word) : wordOfBytes (lowByte w) (highByte w) = w := by
  apply BitVec.eq_of_getLsbD_eq
  intro i hi
  rw [getLsbD_wordOfBytes, getLsbD_lowByte, getLsbD_highByte]
  by_cases h : i < 8
  · simp only [h, if_true, decide_true, Bool.true_and]
  · simp only [h, if_false, show 8 + (i - 8) = i by omega, show i - 8 < 8 by omega, decide_true, Bool.true_and]

@[simp] theorem lowByte_wordOfBytes (lo hi : Byte) : lowByte (wordOfBytes lo hi) = lo := by
  apply BitVec.eq_of_getLsbD_eq
  intro i h
  rw [getLsbD_lowByte, getLsbD_wordOfBytes]
  simp only [h, if_true, decide_true, Bool.true_and]

@[simp] theorem highByte_wordOfBytes (lo hi : Byte) : highByte (wordOfBytes lo hi) = hi := by
  apply BitVec.eq_of_getLsbD_eq
  intro i h
  rw [getLsbD_highByte, getLsbD_wordOfBytes]
  simp only [h, show ¬ 8 + i < 8 by omega, if_false, decide_true, Bool.true_and, Nat.add_sub_cancel_left]

/-- Bit i of the masks of R34. -/
theorem getLsbD_byteMasks (i : Nat) (h : i < 16) :
    (0x00FF#16).getLsbD i = decide (i < 8) ∧ (0xFF00#16).getLsbD i = !decide (i < 8) := by
  have all : ∀ k : Fin 16, (0x00FF#16).getLsbD k = decide (k.val < 8) ∧ (0xFF00#16).getLsbD k = !decide (k.val < 8) := by
    decide
  exact all ⟨i, h⟩

/-- The mask-and-OR write is the word with one byte replaced (R34). -/
theorem maskOr_eq (old : Word) (high : Bool) (v : Byte) :
    maskOr old high v = if high then wordOfBytes (lowByte old) v else wordOfBytes v (highByte old) := by
  apply BitVec.eq_of_getLsbD_eq
  intro i hi
  have hv : ¬ i < 8 → v.getLsbD i = false := fun h => BitVec.getLsbD_of_ge v i (by omega)
  cases high <;>
    simp only [maskOr, BitVec.getLsbD_or, BitVec.getLsbD_and, BitVec.getLsbD_setWidth, BitVec.getLsbD_shiftLeft,
      Bool.false_eq_true, if_true, if_false, getLsbD_wordOfBytes, getLsbD_lowByte, getLsbD_highByte,
      (getLsbD_byteMasks i hi).1, (getLsbD_byteMasks i hi).2, hi, decide_true, Bool.true_and] <;>
    by_cases h : i < 8
  · simp only [h, decide_true, Bool.not_true, Bool.and_false, Bool.false_or, if_true]
  · simp only [h, hv h, show 8 + (i - 8) = i by omega, show i - 8 < 8 by omega, decide_true, decide_false,
      Bool.not_false, Bool.and_true, Bool.or_false, if_false, Bool.true_and]
  · simp only [h, decide_true, Bool.not_true, Bool.and_true, Bool.false_and, Bool.or_false, if_true, Bool.true_and]
  · simp only [h, decide_false, Bool.and_false, Bool.not_false, Bool.true_and, Bool.false_or, if_false,
      show i - 8 < 16 by omega, decide_true]

@[simp] theorem Gpr.get8_set8_self (g : Gpr) (r : Reg8) (v : Byte) : (g.set8 r v).get8 r = v := by
  simp only [Gpr.get8, Gpr.set8, Gpr.get_set_self, maskOr_eq]
  cases Reg8.isHigh r <;> simp

theorem Gpr.get8_set8_ne (g : Gpr) {r q : Reg8} (v : Byte) (h : q ≠ r) : (g.set8 r v).get8 q = g.get8 q := by
  simp only [Gpr.get8, Gpr.set8]
  by_cases hc : Reg8.cell q = Reg8.cell r
  · rw [hc, Gpr.get_set_self, maskOr_eq]
    cases r <;> cases q <;> first | exact absurd rfl h | (simp [Reg8.cell] at hc; done) | simp [Reg8.isHigh, Reg8.cell]
  · rw [Gpr.get_set_ne _ _ hc]

/-- A write of an 8-bit view changes no other cell (R34). -/
theorem Gpr.get_set8_ne (g : Gpr) {r : Reg8} {q : Reg16} (v : Byte) (h : q ≠ Reg8.cell r) :
    (g.set8 r v).get q = g.get q := Gpr.get_set_ne _ _ h

/-! ## Outcomes -/

theorem toOutcome_next {r : Except Fault State} {t : State} : toOutcome r = .next t ↔ r = .ok t := by
  cases r <;> simp [toOutcome]

theorem toOutcome_fault {r : Except Fault State} {f : Fault} : toOutcome r = .fault f ↔ r = .error f := by
  cases r <;> simp [toOutcome]

/-- An answer of the shared operations is never a refusal. -/
theorem toOutcome_ne_refused (r : Except Fault State) (x : Refusal) : toOutcome r ≠ .refused x := by
  cases r <;> simp [toOutcome]

end Sys2Proof.Machine
end

