-- ==== Sys2Proof/Laws/Decode.lean ====
section
/-!
SUPPORT. The small lemmas of the encoding: fields of a ModRM byte, register numbers, and reading back an encoded rm side.
-/

namespace Sys2Proof

@[simp] theorem modField_modrmByte (a : BitVec 2) (b c : BitVec 3) : modField (modrmByte a b c) = a := by
  revert a b c; decide

@[simp] theorem regField_modrmByte (a : BitVec 2) (b c : BitVec 3) : regField (modrmByte a b c) = b := by
  revert a b c; decide

@[simp] theorem rmField_modrmByte (a : BitVec 2) (b c : BitVec 3) : rmField (modrmByte a b c) = c := by
  revert a b c; decide

/-- A byte is the ModRM byte of its three fields. -/
theorem modrmByte_fields (m : Byte) : modrmByte (modField m) (regField m) (rmField m) = m := by
  revert m; decide

@[simp] theorem Reg16.ofCode_code (r : Reg16) : Reg16.ofCode r.code = r := by cases r <;> rfl

@[simp] theorem Reg8.ofCode_code (r : Reg8) : Reg8.ofCode r.code = r := by cases r <;> rfl

@[simp] theorem SReg.ofCode_code (r : SReg) : SReg.ofCode r.code = some r := by cases r <;> rfl

@[simp] theorem Base.ofCode_code (b : Base) : Base.ofCode b.code = b := by cases b <;> rfl

@[simp] theorem Reg16.code_ofCode (c : BitVec 3) : (Reg16.ofCode c).code = c := by revert c; decide

@[simp] theorem Reg8.code_ofCode (c : BitVec 3) : (Reg8.ofCode c).code = c := by revert c; decide

@[simp] theorem Base.code_ofCode (c : BitVec 3) : (Base.ofCode c).code = c := by revert c; decide

/-- An encoded memory form is its ModRM byte and its displacement; the decoder reads the form back. -/
theorem decodeMem_encodeMem (op : Byte) (reg : BitVec 3) {m : MemForm} (hw : m.wellFormed = true) (tail : List Byte) :
    ∃ b d, encodeMem reg m = b :: d ∧ regField b = reg ∧ modField b ≠ 3#2 ∧ d.length + 2 = m.len ∧
      decodeMem (modField b) (rmField b) (op :: b :: (d ++ tail)) = .ok m := by
  cases m with
  | direct a =>
    exact ⟨_, _, rfl, by simp, by simp, rfl, by
      simp [decodeMem, wordBytes, wordAt, Except.map, Machine.wordOfBytes_low_high]⟩
  | base b =>
    refine ⟨_, _, rfl, by simp, by simp, rfl, ?_⟩
    rw [modField_modrmByte, rmField_modrmByte]
    cases b <;> first | rfl | exact absurd hw (by decide)
  | disp8 b d =>
    exact ⟨_, _, rfl, by simp, by simp, rfl, by simp [decodeMem, byteAt, Except.map]⟩
  | disp16 b d =>
    exact ⟨_, _, rfl, by simp, by simp, rfl, by
      simp [decodeMem, wordBytes, wordAt, Except.map, Machine.wordOfBytes_low_high]⟩

/-- An encoded rm side is its ModRM byte and its displacement; the decoder reads the rm side back. -/
theorem decodeRM_encodeRM {R : Type} {code : R → BitVec 3} {ofCode : BitVec 3 → R} (hc : ∀ r, ofCode (code r) = r)
    (op : Byte) (reg : BitVec 3) {rm : RM R} (hw : rm.wellFormed = true) (tail : List Byte) :
    ∃ b d, encodeRM code reg rm = b :: d ∧ regField b = reg ∧ d.length + 2 = rm.len ∧
      decodeRM ofCode b (op :: b :: (d ++ tail)) = .ok rm := by
  cases rm with
  | reg r => exact ⟨_, _, rfl, by simp, rfl, by simp [decodeRM, hc]⟩
  | mem m =>
    obtain ⟨b, d, he, hr, hm, hl, hd⟩ := decodeMem_encodeMem op reg (m := m) hw tail
    exact ⟨b, d, he, hr, hl, by rw [decodeRM, if_neg hm, hd]; rfl⟩

/-- An encoded rm side has one byte fewer than the decoder's length, which counts the opcode. -/
theorem length_encodeRM {R : Type} (code : R → BitVec 3) (reg : BitVec 3) (rm : RM R) :
    (encodeRM code reg rm).length + 1 = rm.len := by
  cases rm with
  | reg r => rfl
  | mem m => cases m <;> rfl

theorem length_encodeMem (reg : BitVec 3) (m : MemForm) : (encodeMem reg m).length + 1 = m.len := by
  cases m <;> rfl

theorem RM.len_bounds {R : Type} (rm : RM R) : 2 ≤ rm.len ∧ rm.len ≤ 4 := by
  cases rm with
  | reg r => exact ⟨Nat.le_refl 2, by simp [RM.len]⟩
  | mem m => cases m <;> exact ⟨by simp [RM.len, MemForm.len], by simp [RM.len, MemForm.len]⟩

/-! ## Reading back an encoded instruction, by format -/

/-- Format `MODRM` with both sides in one register space. -/
theorem decodeModrm_encodeRM {R : Type} {code : R → BitVec 3} {ofCode : BitVec 3 → R} (hc : ∀ r, ofCode (code r) = r)
    (op : Byte) (r : R) {rm : RM R} (hw : rm.wellFormed = true) (tail : List Byte) (mk : RM R → R → Instr) :
    decodeModrm ofCode mk (op :: (encodeRM code (code r) rm ++ tail)) = .ok (mk rm r) := by
  obtain ⟨b, d, he, hr, -, hd⟩ := decodeRM_encodeRM hc op (code r) hw tail
  simp only [he, List.cons_append, decodeModrm, byteAt, List.getElem?_cons_succ, List.getElem?_cons_zero]
  simp only [bind, Except.bind, hd, hr, hc, pure, Except.pure]

/-- Format `MODRM` with a segment register on the reg side. -/
theorem decodeModrmSeg_encodeRM (op : Byte) (r : SReg) {rm : RM Reg16} (hw : rm.wellFormed = true) (tail : List Byte)
    (mk : RM Reg16 → SReg → Instr) :
    decodeModrmSeg op mk (op :: (encodeRM Reg16.code r.code rm ++ tail)) = .ok (mk rm r) := by
  obtain ⟨b, d, he, hr, -, hd⟩ := decodeRM_encodeRM Reg16.ofCode_code op r.code hw tail
  simp only [he, List.cons_append, decodeModrmSeg, byteAt, List.getElem?_cons_succ, List.getElem?_cons_zero]
  simp only [bind, Except.bind, hd, hr, SReg.ofCode_code, pure, Except.pure]

/-- Format `MODRM` of LES and LDS. -/
theorem decodeFar_encodeMem (op : Byte) (r : Reg16) {m : MemForm} (hw : m.wellFormed = true) (tail : List Byte)
    (mk : Reg16 → MemForm → Instr) : decodeFar op mk (op :: (encodeMem r.code m ++ tail)) = .ok (mk r m) := by
  obtain ⟨b, d, he, hr, hm, -, hd⟩ := decodeMem_encodeMem op r.code hw tail
  simp only [he, List.cons_append, decodeFar, byteAt, List.getElem?_cons_succ, List.getElem?_cons_zero]
  simp only [bind, Except.bind, if_neg hm, hd, hr, Reg16.ofCode_code, pure, Except.pure]

/-- Formats `MODRM_I8` and `MODRM_I16`: `imm` reads the immediate's bytes `ib`, wherever they stand, as `v`. -/
theorem decodeGroup_encodeRM {R I : Type} {code : R → BitVec 3} {ofCode : BitVec 3 → R} (hc : ∀ r, ofCode (code r) = r)
    (op : Byte) (c : BitVec 3) {rm : RM R} (hw : rm.wellFormed = true) (ib tail : List Byte)
    (sub : BitVec 3 → RM R → I → Instr) (imm : List Byte → Nat → Except DecodeError I) (v : I)
    (hi : ∀ pre : List Byte, imm (pre ++ ib ++ tail) pre.length = .ok v) :
    decodeGroup ofCode imm sub (op :: (encodeRM code c rm ++ ib ++ tail)) = .ok (sub c rm v) := by
  obtain ⟨b, d, he, hr, hl, hd⟩ := decodeRM_encodeRM hc op c hw (ib ++ tail)
  have h := hi (op :: b :: d)
  simp only [List.length_cons, List.cons_append, List.append_assoc, hl] at h
  simp only [he, List.cons_append, List.append_assoc, decodeGroup, byteAt, List.getElem?_cons_succ,
    List.getElem?_cons_zero]
  simp only [bind, Except.bind, hd, hr, h, pure, Except.pure]

theorem byteAt_append (v : Byte) (tail pre : List Byte) : byteAt (pre ++ [v] ++ tail) pre.length = .ok v := by
  simp [byteAt]

theorem wordAt_append (v : Word) (tail pre : List Byte) : wordAt (pre ++ wordBytes v ++ tail) pre.length = .ok v := by
  simp [wordAt, wordBytes, Machine.wordOfBytes_low_high]

theorem decodeI16_wordBytes (mk : Word → Instr) (op : Byte) (v : Word) (tail : List Byte) :
    decodeI16 mk (op :: (wordBytes v ++ tail)) = .ok (mk v) := by
  simp [decodeI16, wordAt, wordBytes, Except.map, Machine.wordOfBytes_low_high]

end Sys2Proof
end

