-- ==== Sys2Proof/Laws/Memory.lean ====
section
/-!
SUPPORT. Memory and the interrupt table: what a read gives after a write, and that every operation keeps the canonical
form.
-/

namespace Sys2Proof.Machine

/-! ## Reading after writing -/

/-- A write leaves every other address alone, whatever the list. -/
theorem Memory.byte_setByte_ne (m : Memory) {a b : Nat} (v : Byte) (h : b ≠ a) :
    Memory.byte (Memory.setByte m a v) b = Memory.byte m b := by
  induction m with
  | nil =>
    simp only [Memory.setByte]
    split <;> simp [Memory.byte, Ne.symm h]
  | cons c rest ih =>
    obtain ⟨k, w⟩ := c
    simp only [Memory.setByte]
    split
    · split <;> simp [Memory.byte, Ne.symm h]
    · split
      · rename_i h1 h2
        subst h2
        split <;> simp [Memory.byte, Ne.symm h]
      · simp only [Memory.byte]
        split
        · rfl
        · exact ih

/-- Below the lowest listed address every byte is unlisted. -/
theorem Memory.byte_of_lt {m : Memory} {lo a : Nat} (hw : Memory.wfFrom lo m = true) (h : a < lo) :
    Memory.byte m a = Config.unlistedByte := by
  induction m generalizing lo with
  | nil => rfl
  | cons c rest ih =>
    obtain ⟨k, w⟩ := c
    simp only [Memory.wfFrom, Bool.and_eq_true, decide_eq_true_eq] at hw
    obtain ⟨⟨⟨h1, -⟩, -⟩, h2⟩ := hw
    simp only [Memory.byte, show ¬ k = a by omega, if_false]
    exact ih h2 (by omega)

theorem Memory.byte_setByte_self_from {m : Memory} {lo a : Nat} (v : Byte) (hw : Memory.wfFrom lo m = true) :
    Memory.byte (Memory.setByte m a v) a = v := by
  induction m generalizing lo with
  | nil =>
    simp only [Memory.setByte]
    split
    · rename_i h; exact h.symm
    · simp [Memory.byte]
  | cons c rest ih =>
    obtain ⟨k, w⟩ := c
    simp only [Memory.wfFrom, Bool.and_eq_true, decide_eq_true_eq] at hw
    obtain ⟨⟨⟨h1, hk⟩, hb⟩, h2⟩ := hw
    simp only [Memory.setByte]
    split
    · rename_i h
      split
      · rename_i hv
        simp only [Memory.byte, show ¬ k = a by omega, if_false, hv]
        exact Memory.byte_of_lt h2 (by omega)
      · simp [Memory.byte]
    · split
      · rename_i h3 h4
        subst h4
        split
        · rename_i hv
          rw [hv]
          exact Memory.byte_of_lt h2 (by omega)
        · simp [Memory.byte]
      · rename_i h3 h4
        simp only [Memory.byte, show ¬ k = a from fun e => h4 e.symm, if_false]
        exact ih h2

/-- A read at the written address gives the value written. -/
theorem Memory.byte_setByte_self {m : Memory} {a : Nat} (v : Byte) (hw : Memory.wf m = true) :
    Memory.byte (Memory.setByte m a v) a = v := Memory.byte_setByte_self_from v hw

/-! ## The canonical form is kept -/

theorem Memory.wfFrom_mono {m : Memory} {lo lo' : Nat} (h : lo' ≤ lo) (hw : Memory.wfFrom lo m = true) :
    Memory.wfFrom lo' m = true := by
  cases m with
  | nil => rfl
  | cons c rest =>
    obtain ⟨k, w⟩ := c
    simp only [Memory.wfFrom, Bool.and_eq_true, decide_eq_true_eq] at hw ⊢
    exact ⟨⟨⟨by omega, hw.1.1.2⟩, hw.1.2⟩, hw.2⟩

theorem Memory.wfFrom_setByte {m : Memory} {lo a : Nat} (v : Byte) (hw : Memory.wfFrom lo m = true) (hlo : lo ≤ a)
    (ha : a < Config.memSize) : Memory.wfFrom lo (Memory.setByte m a v) = true := by
  induction m generalizing lo with
  | nil =>
    simp only [Memory.setByte]
    split
    · rfl
    · rename_i hv; simp [Memory.wfFrom, hlo, ha, hv]
  | cons c rest ih =>
    obtain ⟨k, w⟩ := c
    have hw0 := hw
    simp only [Memory.wfFrom, Bool.and_eq_true, decide_eq_true_eq] at hw
    obtain ⟨⟨⟨h1, hk⟩, hb⟩, h2⟩ := hw
    simp only [Memory.setByte]
    split
    · rename_i h
      split
      · exact hw0
      · rename_i hv
        simp only [Memory.wfFrom, Bool.and_eq_true, decide_eq_true_eq]
        exact ⟨⟨⟨hlo, ha⟩, by simpa using hv⟩, ⟨⟨by omega, hk⟩, hb⟩, h2⟩
    · split
      · rename_i h3 h4
        split
        · exact Memory.wfFrom_mono (by omega) h2
        · rename_i hv
          simp only [Memory.wfFrom, Bool.and_eq_true, decide_eq_true_eq]
          exact ⟨⟨⟨hlo, ha⟩, by simpa using hv⟩, h4 ▸ h2⟩
      · rename_i h3 h4
        simp only [Memory.wfFrom, Bool.and_eq_true, decide_eq_true_eq]
        exact ⟨⟨⟨h1, hk⟩, hb⟩, ih h2 (by omega)⟩

/-- A write inside memory keeps the canonical form. -/
theorem Memory.wf_setByte {m : Memory} {a : Nat} (v : Byte) (hw : Memory.wf m = true) (ha : a < Config.memSize) :
    Memory.wf (Memory.setByte m a v) = true := Memory.wfFrom_setByte v hw (Nat.zero_le a) ha

/-- A word written inside memory keeps the canonical form. -/
theorem Memory.wf_setWord {m : Memory} {p : Nat} (v : Word) (hw : Memory.wf m = true) (hp : p + 2 ≤ Config.memSize) :
    Memory.wf (Memory.setWord m p v) = true :=
  Memory.wf_setByte _ (Memory.wf_setByte _ hw (by omega)) (by omega)

/-- An image written inside memory keeps the canonical form. -/
theorem Memory.wf_setBytes {m : Memory} {a : Nat} (bs : List Byte) (hw : Memory.wf m = true)
    (ha : a + bs.length ≤ Config.memSize) : Memory.wf (Memory.setBytes m a bs) = true := by
  induction bs generalizing m a with
  | nil => exact hw
  | cons b bs ih =>
    simp only [List.length_cons] at ha
    exact ih (Memory.wf_setByte b hw (by omega)) (by omega)

/-- A word write leaves every other address alone. -/
theorem Memory.byte_setWord_ne (m : Memory) {p a : Nat} (v : Word) (h : a ≠ p) (h' : a ≠ p + 1) :
    Memory.byte (Memory.setWord m p v) a = Memory.byte m a := by
  rw [Memory.setWord, Memory.byte_setByte_ne _ _ h', Memory.byte_setByte_ne _ _ h]

theorem Memory.byte_setBytes_of_lt (m : Memory) {p a : Nat} (bs : List Byte) (h : a < p) :
    Memory.byte (Memory.setBytes m p bs) a = Memory.byte m a := by
  induction bs generalizing m p with
  | nil => rfl
  | cons b bs ih =>
    rw [Memory.setBytes, ih _ (by omega), Memory.byte_setByte_ne _ _ (by omega)]

/-! ## The interrupt table -/

theorem IntTable.wfFrom_mono {t : IntTable} {lo lo' : Nat} (h : lo' ≤ lo) (hw : IntTable.wfFrom lo t = true) :
    IntTable.wfFrom lo' t = true := by
  cases t with
  | nil => rfl
  | cons c rest =>
    simp only [IntTable.wfFrom, Bool.and_eq_true, decide_eq_true_eq] at hw ⊢
    exact ⟨by omega, hw.2⟩

theorem IntTable.wfFrom_register {t : IntTable} {lo : Nat} (v : Byte) (svc : Service)
    (hw : IntTable.wfFrom lo t = true) (hlo : lo ≤ v.toNat) : IntTable.wfFrom lo (IntTable.register t v svc) = true := by
  induction t generalizing lo with
  | nil => simp [IntTable.register, IntTable.wfFrom, hlo]
  | cons c rest ih =>
    obtain ⟨k, old⟩ := c
    simp only [IntTable.wfFrom, Bool.and_eq_true, decide_eq_true_eq] at hw
    simp only [IntTable.register]
    split
    · rename_i h
      have h' : v.toNat < k.toNat := h
      simp only [IntTable.wfFrom, Bool.and_eq_true, decide_eq_true_eq]
      exact ⟨hlo, by omega, hw.2⟩
    · split
      · rename_i h h4
        simp only [IntTable.wfFrom, Bool.and_eq_true, decide_eq_true_eq]
        exact ⟨hlo, h4 ▸ hw.2⟩
      · rename_i h h4
        have h' : ¬ v.toNat < k.toNat := h
        have h5 : v.toNat ≠ k.toNat := fun e => h4 (BitVec.eq_of_toNat_eq e)
        simp only [IntTable.wfFrom, Bool.and_eq_true, decide_eq_true_eq]
        exact ⟨hw.1, ih hw.2 (by omega)⟩

/-- Registering a vector keeps the canonical form. -/
theorem IntTable.wf_register {t : IntTable} (v : Byte) (svc : Service) (hw : IntTable.wf t = true) :
    IntTable.wf (IntTable.register t v svc) = true := IntTable.wfFrom_register v svc hw (Nat.zero_le _)

end Sys2Proof.Machine
end

