-- ==== Sys2Proof/Laws/Ops.lean ====
section
/-!
SUPPORT. One lemma per shared operation that says everything it can do; later proofs cite it instead of unfolding the
operation.
-/

namespace Sys2Proof.Machine

/-! ## Accesses -/

theorem checkRange_eq (p n : Nat) :
    checkRange p n = if p + n ≤ Config.memSize then .ok () else .error (.addressOutOfRange p) := rfl

theorem State.read8_eq (s : State) (p : Nat) : s.read8 p =
    if p + 1 ≤ Config.memSize then .ok (Memory.byte s.mem p) else .error (.addressOutOfRange p) := by
  unfold State.read8 checkRange; split <;> rfl

theorem State.read16_eq (s : State) (p : Nat) : s.read16 p =
    if p + 2 ≤ Config.memSize then .ok (Memory.word s.mem p) else .error (.addressOutOfRange p) := by
  unfold State.read16 checkRange; split <;> rfl

theorem State.read32_eq (s : State) (p : Nat) : s.read32 p =
    if p + 4 ≤ Config.memSize then .ok (Memory.word s.mem (p + 2) ++ Memory.word s.mem p)
    else .error (.addressOutOfRange p) := by
  unfold State.read32 checkRange; split <;> rfl

theorem State.write8_eq (s : State) (p : Nat) (v : Byte) : s.write8 p v =
    if p + 1 ≤ Config.memSize then .ok (s.setMem (Memory.setByte s.mem p v)) else .error (.addressOutOfRange p) := by
  unfold State.write8 checkRange; split <;> rfl

theorem State.write16_eq (s : State) (p : Nat) (v : Word) : s.write16 p v =
    if p + 2 ≤ Config.memSize then .ok (s.setMem (Memory.setWord s.mem p v)) else .error (.addressOutOfRange p) := by
  unfold State.write16 checkRange; split <;> rfl

/-! ## The stack engine -/

theorem State.push_eq (s : State) (v : Word) : s.push v =
    if s.stackAddr (s.reg16 .sp - 2) + 2 ≤ Config.memSize then
      .ok ((s.setReg16 .sp (s.reg16 .sp - 2)).setMem (Memory.setWord s.mem (s.stackAddr (s.reg16 .sp - 2)) v))
    else .error (.addressOutOfRange (s.stackAddr (s.reg16 .sp - 2))) := by
  rw [State.push, State.write16_eq]; rfl

theorem State.pop_eq (s : State) : s.pop =
    if s.stackAddr (s.reg16 .sp) + 2 ≤ Config.memSize then
      .ok (Memory.word s.mem (s.stackAddr (s.reg16 .sp)), s.setReg16 .sp (s.reg16 .sp + 2))
    else .error (.addressOutOfRange (s.stackAddr (s.reg16 .sp))) := by
  rw [State.pop, State.read16_eq]; split <;> rfl

theorem State.stackSlot_eq (s : State) (base : Word) (k : Nat) : s.stackSlot base k =
    if s.stackAddr (base + BitVec.ofNat 16 (2 * k)) + 2 ≤ Config.memSize then
      .ok (Memory.word s.mem (s.stackAddr (base + BitVec.ofNat 16 (2 * k))))
    else .error (.addressOutOfRange (s.stackAddr (base + BitVec.ofNat 16 (2 * k)))) := by
  rw [State.stackSlot, State.read16_eq]

/-- A bulk push that answers is its first push and then the rest. -/
theorem State.pushAll_cons_ok {s t : State} {v : Word} {vs : List Word} :
    s.pushAll (v :: vs) = .ok t ↔ ∃ u, s.push v = .ok u ∧ u.pushAll vs = .ok t := by
  rw [State.pushAll]
  cases s.push v <;> simp [bind, Except.bind]

/-! ## Operands -/

theorem State.readRM8_mem (s : State) (m : MemForm) : s.readRM8 (.mem m) = s.read8 (s.operandAddr m) := rfl

theorem State.readRM16_mem (s : State) (m : MemForm) : s.readRM16 (.mem m) = s.read16 (s.operandAddr m) := rfl

/-- Everything a write of an 8-bit rm side can do. -/
theorem State.writeRM8_ok {s t : State} {rm : RM Reg8} {v : Byte} (h : s.writeRM8 rm v = .ok t) :
    (∃ r, rm = .reg r ∧ t = s.setReg8 r v) ∨
    (∃ m, rm = .mem m ∧ s.operandAddr m + 1 ≤ Config.memSize ∧
      t = s.setMem (Memory.setByte s.mem (s.operandAddr m) v)) := by
  cases rm with
  | reg r => exact .inl ⟨r, rfl, (Except.ok.inj h).symm⟩
  | mem m =>
    rw [State.writeRM8, State.write8_eq] at h
    split at h
    · exact .inr ⟨m, rfl, ‹_›, (Except.ok.inj h).symm⟩
    · cases h

/-- Everything a write of a 16-bit rm side can do. -/
theorem State.writeRM16_ok {s t : State} {rm : RM Reg16} {v : Word} (h : s.writeRM16 rm v = .ok t) :
    (∃ r, rm = .reg r ∧ t = s.setReg16 r v) ∨
    (∃ m, rm = .mem m ∧ s.operandAddr m + 2 ≤ Config.memSize ∧
      t = s.setMem (Memory.setWord s.mem (s.operandAddr m) v)) := by
  cases rm with
  | reg r => exact .inl ⟨r, rfl, (Except.ok.inj h).symm⟩
  | mem m =>
    rw [State.writeRM16, State.write16_eq] at h
    split at h
    · exact .inr ⟨m, rfl, ‹_›, (Except.ok.inj h).symm⟩
    · cases h

/-! ## The executor -/

/-- Everything the rm-destination executor can do when it answers. -/
theorem State.execToRM_ok {n : Nat} {s t : State} {dst : Except Fault (BitVec n)} {src : BitVec n}
    {write : BitVec n → Except Fault State} {res : BitVec n → BitVec n → BitVec n}
    {fl : BitVec n → BitVec n → Option StatusFlags} {commit : Bool} {len : Nat}
    (h : s.execToRM dst src write res fl commit len = .ok t) :
    ∃ d u, dst = .ok d ∧ (if commit then write (res d src) = .ok u else u = s) ∧
      t = (u.setStatus? (fl d src)).advance len := by
  cases dst with
  | error f => cases h
  | ok d =>
    cases commit with
    | false => exact ⟨d, s, rfl, rfl, (Except.ok.inj h).symm⟩
    | true =>
      simp only [State.execToRM, bind, Except.bind, if_true] at h
      cases hw : write (res d src) with
      | error f => rw [hw] at h; cases h
      | ok u => rw [hw] at h; exact ⟨d, u, rfl, by simpa using hw, (Except.ok.inj h).symm⟩

/-- Everything the register-destination executor can do when it answers. -/
theorem State.execToReg_ok {n : Nat} {s t : State} {dst : BitVec n} {src : Except Fault (BitVec n)}
    {write : BitVec n → State} {res : BitVec n → BitVec n → BitVec n}
    {fl : BitVec n → BitVec n → Option StatusFlags} {commit : Bool} {len : Nat}
    (h : s.execToReg dst src write res fl commit len = .ok t) :
    ∃ v, src = .ok v ∧ t = ((if commit then write (res dst v) else s).setStatus? (fl dst v)).advance len := by
  cases src with
  | error f => cases h
  | ok v => exact ⟨v, rfl, (Except.ok.inj h).symm⟩

end Sys2Proof.Machine
end

