-- ==== Sys2Proof/Laws/Meanings.lean ====
section
/-!
SUPPORT. One lemma for each operation that several meanings share, for the fetch and for the step: everything it does,
in one equation.
-/

namespace Sys2Proof.Machine

/-! ## ALU operations and moves with an rm side -/

theorem aluToRM8_reg (op : AluOp) (r : Reg8) (src : Byte) (len : Nat) (s : State) :
    aluToRM8 op (.reg r) src len s =
      .ok (((if op.commits then s.setReg8 r (aluResult op (s.reg8 r) src s.flags.CF) else s).setStatus
        (aluFlags op (s.reg8 r) src s.flags.CF)).advance len) := by
  cases op <;> rfl

theorem aluToRM16_reg (op : AluOp) (r : Reg16) (src : Word) (len : Nat) (s : State) :
    aluToRM16 op (.reg r) src len s =
      .ok (((if op.commits then s.setReg16 r (aluResult op (s.reg16 r) src s.flags.CF) else s).setStatus
        (aluFlags op (s.reg16 r) src s.flags.CF)).advance len) := by
  cases op <;> rfl

theorem aluToRM8_mem (op : AluOp) (m : MemForm) (src : Byte) (len : Nat) (s : State) :
    aluToRM8 op (.mem m) src len s =
      if s.operandAddr m + 1 ≤ Config.memSize then
        .ok (((if op.commits then s.setMem (Memory.setByte s.mem (s.operandAddr m)
            (aluResult op (Memory.byte s.mem (s.operandAddr m)) src s.flags.CF)) else s).setStatus
          (aluFlags op (Memory.byte s.mem (s.operandAddr m)) src s.flags.CF)).advance len)
      else .error (.addressOutOfRange (s.operandAddr m)) := by
  simp only [aluToRM8, State.execToRM, State.readRM8, State.writeRM8, State.read8_eq, State.write8_eq]
  split <;> cases op <;> rfl

theorem aluToRM16_mem (op : AluOp) (m : MemForm) (src : Word) (len : Nat) (s : State) :
    aluToRM16 op (.mem m) src len s =
      if s.operandAddr m + 2 ≤ Config.memSize then
        .ok (((if op.commits then s.setMem (Memory.setWord s.mem (s.operandAddr m)
            (aluResult op (Memory.word s.mem (s.operandAddr m)) src s.flags.CF)) else s).setStatus
          (aluFlags op (Memory.word s.mem (s.operandAddr m)) src s.flags.CF)).advance len)
      else .error (.addressOutOfRange (s.operandAddr m)) := by
  simp only [aluToRM16, State.execToRM, State.readRM16, State.writeRM16, State.read16_eq, State.write16_eq]
  split <;> cases op <;> rfl

theorem aluToReg8_reg (op : AluOp) (dst src : Reg8) (s : State) :
    aluToReg8 op dst (.reg src) s =
      .ok (((if op.commits then s.setReg8 dst (aluResult op (s.reg8 dst) (s.reg8 src) s.flags.CF) else s).setStatus
        (aluFlags op (s.reg8 dst) (s.reg8 src) s.flags.CF)).advance 2) := by
  cases op <;> rfl

theorem aluToReg16_reg (op : AluOp) (dst src : Reg16) (s : State) :
    aluToReg16 op dst (.reg src) s =
      .ok (((if op.commits then s.setReg16 dst (aluResult op (s.reg16 dst) (s.reg16 src) s.flags.CF) else s).setStatus
        (aluFlags op (s.reg16 dst) (s.reg16 src) s.flags.CF)).advance 2) := by
  cases op <;> rfl

theorem aluToReg8_mem (op : AluOp) (dst : Reg8) (m : MemForm) (s : State) :
    aluToReg8 op dst (.mem m) s =
      if s.operandAddr m + 1 ≤ Config.memSize then
        .ok (((if op.commits then s.setReg8 dst
            (aluResult op (s.reg8 dst) (Memory.byte s.mem (s.operandAddr m)) s.flags.CF) else s).setStatus
          (aluFlags op (s.reg8 dst) (Memory.byte s.mem (s.operandAddr m)) s.flags.CF)).advance m.len)
      else .error (.addressOutOfRange (s.operandAddr m)) := by
  simp only [aluToReg8, State.execToReg, State.readRM8, State.read8_eq]
  split <;> cases op <;> rfl

theorem aluToReg16_mem (op : AluOp) (dst : Reg16) (m : MemForm) (s : State) :
    aluToReg16 op dst (.mem m) s =
      if s.operandAddr m + 2 ≤ Config.memSize then
        .ok (((if op.commits then s.setReg16 dst
            (aluResult op (s.reg16 dst) (Memory.word s.mem (s.operandAddr m)) s.flags.CF) else s).setStatus
          (aluFlags op (s.reg16 dst) (Memory.word s.mem (s.operandAddr m)) s.flags.CF)).advance m.len)
      else .error (.addressOutOfRange (s.operandAddr m)) := by
  simp only [aluToReg16, State.execToReg, State.readRM16, State.read16_eq]
  split <;> cases op <;> rfl

theorem movToRM8_mem (m : MemForm) (src : Byte) (len : Nat) (s : State) :
    movToRM8 (.mem m) src len s =
      if s.operandAddr m + 1 ≤ Config.memSize then
        .ok ((s.setMem (Memory.setByte s.mem (s.operandAddr m) src)).advance len)
      else .error (.addressOutOfRange (s.operandAddr m)) := by
  simp only [movToRM8, State.execToRM, State.readRM8, State.writeRM8, State.read8_eq, State.write8_eq]
  split <;> rfl

theorem movToRM16_mem (m : MemForm) (src : Word) (len : Nat) (s : State) :
    movToRM16 (.mem m) src len s =
      if s.operandAddr m + 2 ≤ Config.memSize then
        .ok ((s.setMem (Memory.setWord s.mem (s.operandAddr m) src)).advance len)
      else .error (.addressOutOfRange (s.operandAddr m)) := by
  simp only [movToRM16, State.execToRM, State.readRM16, State.writeRM16, State.read16_eq, State.write16_eq]
  split <;> rfl

theorem loadFar_eq (sr : SReg) (dst : Reg16) (m : MemForm) (s : State) :
    loadFar sr dst m s =
      if s.operandAddr m + 4 ≤ Config.memSize then
        .ok (((s.setReg16 dst (Memory.word s.mem (s.operandAddr m))).setSeg sr
          (Memory.word s.mem (s.operandAddr m + 2))).advance m.len)
      else .error (.addressOutOfRange (s.operandAddr m)) := by
  have h (a b : Word) : (a ++ b : DWord).extractLsb' 0 16 = b ∧ (a ++ b : DWord).extractLsb' 16 16 = a := by
    constructor <;>
      (apply BitVec.eq_of_getLsbD_eq; intro i hi
       rw [BitVec.getLsbD_extractLsb', BitVec.getLsbD_append]; simp [hi])
  rw [loadFar, State.read32_eq]
  split
  · simp only [bind, Except.bind, pure, Except.pure, h]
  · rfl

/-! ## Stack instructions -/

theorem pushValue_eq (v : Word) (s : State) :
    pushValue v s =
      if s.stackAddr (s.reg16 .sp - 2) + 2 ≤ Config.memSize then
        .ok (((s.setReg16 .sp (s.reg16 .sp - 2)).setMem
          (Memory.setWord s.mem (s.stackAddr (s.reg16 .sp - 2)) v)).advance 1)
      else .error (.addressOutOfRange (s.stackAddr (s.reg16 .sp - 2))) := by
  rw [pushValue, State.push_eq]; split <;> rfl

theorem popTo_eq (write : State → Word → State) (s : State) :
    popTo write s =
      if s.stackAddr (s.reg16 .sp) + 2 ≤ Config.memSize then
        .ok ((write (s.setReg16 .sp (s.reg16 .sp + 2)) (Memory.word s.mem (s.stackAddr (s.reg16 .sp)))).advance 1)
      else .error (.addressOutOfRange (s.stackAddr (s.reg16 .sp))) := by
  rw [popTo, State.pop_eq]; split <;> rfl

/-- A bulk push that answers has moved SP by two for each word and has changed nothing but SP and memory. -/
theorem State.pushAll_ok {s t : State} {vs : List Word} (h : s.pushAll vs = .ok t) :
    t = { s with gpr := s.gpr.set .sp (s.reg16 .sp - BitVec.ofNat 16 (2 * vs.length)), mem := t.mem } := by
  induction vs generalizing s with
  | nil => cases h; simp [State.reg16, Gpr.get, Gpr.set]
  | cons v vs ih =>
    obtain ⟨u, hu, hr⟩ := State.pushAll_cons_ok.mp h
    rw [State.push_eq] at hu
    split at hu
    · cases hu
      rw [ih hr]
      simp only [State.setMem, State.setReg16, State.reg16, Gpr.get, Gpr.set, List.length_cons]
      congr 2
      rw [show 2 * (vs.length + 1) = 2 + 2 * vs.length by omega, BitVec.ofNat_add, ← BitVec.sub_sub]
      rfl
    · cases hu

/-! ## The fetch and the step -/

/-- Bytes that stand in memory from `a` on start the window there. -/
theorem Memory.window_of_bytes (m : Memory) (bs : List Byte) (a n : Nat) (ha : a + bs.length ≤ Config.memSize)
    (hn : bs.length ≤ n) (h : ∀ k, bs[k]? = none ∨ bs[k]? = some (Memory.byte m (a + k))) :
    ∃ rest, Memory.window m a n = bs ++ rest := by
  induction bs generalizing a n with
  | nil => exact ⟨_, rfl⟩
  | cons b bs ih =>
    simp only [List.length_cons] at ha hn
    obtain ⟨n, rfl⟩ : ∃ k, n = k + 1 := ⟨n - 1, by omega⟩
    obtain ⟨rest, hr⟩ := ih (a + 1) n (by omega) (by omega) fun k => by
      simpa [Nat.add_assoc, Nat.add_comm 1] using h (k + 1)
    have hb := h 0
    simp only [List.getElem?_cons_zero, Option.some.injEq, Nat.add_zero, reduceCtorEq, false_or] at hb
    exact ⟨rest, by rw [Memory.window, if_pos (by omega), hr, ← hb]; rfl⟩

/-- Outside memory there is nothing to fetch. -/
theorem State.fetchWindow_outside {s : State} (h : s.ip < 0 ∨ (Config.memSize : Int) ≤ s.ip) : s.fetchWindow = [] := by
  rw [State.fetchWindow]
  split
  · rfl
  · exact if_neg (by simp only [Config.memSize] at h ⊢; omega)

theorem step_idle {s : State} (h : s.frames = []) : step s = s.idleTurn := by rw [step, h]

theorem step_service {s : State} {intIp : Int} {act : Activation} {fs : List Frame}
    (h : s.frames = .service intIp act :: fs) : step s = s.serviceTurn intIp act := by rw [step, h]

theorem step_bound {s : State} {e : Int} {fs : List Frame} (h : s.frames = .run e :: fs) (he : e ≤ s.ip) :
    step s = .next s.completeRun := by rw [step, h]; exact if_pos he

theorem step_run {s : State} {e : Int} {fs : List Frame} (h : s.frames = .run e :: fs) (he : s.ip < e) :
    step s = runInstruction s := by rw [step, h]; exact if_neg (by omega)

theorem runInstruction_of_decode {s : State} {i : Instr} (h : decode s.fetchWindow = .ok i) :
    runInstruction s = exec i s := by simp only [runInstruction, State.fetch, h, Except.mapError]

theorem runInstruction_of_error {s : State} {e : DecodeError} (h : decode s.fetchWindow = .error e) :
    runInstruction s = .fault (fetchFault s.ip e) := by simp only [runInstruction, State.fetch, h, Except.mapError]

/-! ## Runs -/

theorem runToEnd_fault {s : State} {f : Fault} (h : step s = .fault f) (fuel : Nat) :
    runToEnd (fuel + 1) s = some (.fatal f, s.endFatal f) := by rw [runToEnd, h]

theorem session_next {s t : State} (h : step s = .next t) (n : Nat) : session (n + 1) s = session n t := by
  rw [session, h]

theorem session_fault {s : State} {f : Fault} (h : step s = .fault f) (n : Nat) :
    session (n + 1) s = session n (s.endFatal f) := by rw [session, h]

end Sys2Proof.Machine
end

