-- ==== Sys2Proof/Laws/PerInstr.lean ====
section
/-!
SUPPORT. Facts about every instruction as syntax, one lemma per constructor. Family `EncodingLength`: an instruction is
one to six bytes long, in its format's length (R100, R101, R113).
-/

namespace Sys2Proof.Laws.EncodingLength

/-- The length of an instruction by its format (R101, R113). -/
def formatLength : Instr → Nat
  | .addRm8R8 dst _ => dst.len
  | .addRm16R16 dst _ => dst.len
  | .addR8Rm8 _ src => src.len
  | .addR16Rm16 _ src => src.len
  | .addAlImm8 _ => 2
  | .addAxImm16 _ => 3
  | .orRm8R8 dst _ => dst.len
  | .orRm16R16 dst _ => dst.len
  | .orR8Rm8 _ src => src.len
  | .orR16Rm16 _ src => src.len
  | .orAlImm8 _ => 2
  | .orAxImm16 _ => 3
  | .adcRm8R8 dst _ => dst.len
  | .adcRm16R16 dst _ => dst.len
  | .adcR8Rm8 _ src => src.len
  | .adcR16Rm16 _ src => src.len
  | .adcAlImm8 _ => 2
  | .adcAxImm16 _ => 3
  | .sbbRm8R8 dst _ => dst.len
  | .sbbRm16R16 dst _ => dst.len
  | .sbbR8Rm8 _ src => src.len
  | .sbbR16Rm16 _ src => src.len
  | .sbbAlImm8 _ => 2
  | .sbbAxImm16 _ => 3
  | .andRm8R8 dst _ => dst.len
  | .andRm16R16 dst _ => dst.len
  | .andR8Rm8 _ src => src.len
  | .andR16Rm16 _ src => src.len
  | .andAlImm8 _ => 2
  | .andAxImm16 _ => 3
  | .subRm8R8 dst _ => dst.len
  | .subRm16R16 dst _ => dst.len
  | .subR8Rm8 _ src => src.len
  | .subR16Rm16 _ src => src.len
  | .subAlImm8 _ => 2
  | .subAxImm16 _ => 3
  | .xorRm8R8 dst _ => dst.len
  | .xorRm16R16 dst _ => dst.len
  | .xorR8Rm8 _ src => src.len
  | .xorR16Rm16 _ src => src.len
  | .xorAlImm8 _ => 2
  | .xorAxImm16 _ => 3
  | .cmpRm8R8 dst _ => dst.len
  | .cmpRm16R16 dst _ => dst.len
  | .cmpR8Rm8 _ src => src.len
  | .cmpR16Rm16 _ src => src.len
  | .cmpAlImm8 _ => 2
  | .cmpAxImm16 _ => 3
  | .pushEs => 1
  | .pushCs => 1
  | .pushSs => 1
  | .pushDs => 1
  | .popEs => 1
  | .popSs => 1
  | .popDs => 1
  | .pushR16 _ => 1
  | .popR16 _ => 1
  | .pusha => 1
  | .popa => 1
  | .jo _ => 2
  | .jno _ => 2
  | .jb _ => 2
  | .jae _ => 2
  | .je _ => 2
  | .jne _ => 2
  | .jbe _ => 2
  | .ja _ => 2
  | .js _ => 2
  | .jns _ => 2
  | .jp _ => 2
  | .jnp _ => 2
  | .jl _ => 2
  | .jge _ => 2
  | .jle _ => 2
  | .jg _ => 2
  | .addRm8Imm8 dst _ => dst.len + 1
  | .orRm8Imm8 dst _ => dst.len + 1
  | .adcRm8Imm8 dst _ => dst.len + 1
  | .sbbRm8Imm8 dst _ => dst.len + 1
  | .andRm8Imm8 dst _ => dst.len + 1
  | .subRm8Imm8 dst _ => dst.len + 1
  | .xorRm8Imm8 dst _ => dst.len + 1
  | .cmpRm8Imm8 dst _ => dst.len + 1
  | .addRm16Imm16 dst _ => dst.len + 2
  | .orRm16Imm16 dst _ => dst.len + 2
  | .adcRm16Imm16 dst _ => dst.len + 2
  | .sbbRm16Imm16 dst _ => dst.len + 2
  | .andRm16Imm16 dst _ => dst.len + 2
  | .subRm16Imm16 dst _ => dst.len + 2
  | .xorRm16Imm16 dst _ => dst.len + 2
  | .cmpRm16Imm16 dst _ => dst.len + 2
  | .addRm16SImm8 dst _ => dst.len + 1
  | .orRm16SImm8 dst _ => dst.len + 1
  | .adcRm16SImm8 dst _ => dst.len + 1
  | .sbbRm16SImm8 dst _ => dst.len + 1
  | .andRm16SImm8 dst _ => dst.len + 1
  | .subRm16SImm8 dst _ => dst.len + 1
  | .xorRm16SImm8 dst _ => dst.len + 1
  | .cmpRm16SImm8 dst _ => dst.len + 1
  | .movRm8R8 dst _ => dst.len
  | .movRm16R16 dst _ => dst.len
  | .movR8Rm8 _ src => src.len
  | .movR16Rm16 _ src => src.len
  | .movRm16Sreg dst _ => dst.len
  | .movSregRm16 _ src => src.len
  | .movR8Imm8 _ _ => 2
  | .movR16Imm16 _ _ => 3
  | .retImm16 _ => 3
  | .ret => 1
  | .les _ src => src.len
  | .lds _ src => src.len
  | .int _ => 2

/-- The encoding has the length of the instruction's format, one to six bytes. -/
def Statement (i : Instr) : Prop :=
  (encode i).length = formatLength i ∧ 1 ≤ formatLength i ∧ formatLength i ≤ Config.maxInstrBytes

theorem one : (1 : Nat) = 1 ∧ 1 ≤ 1 ∧ 1 ≤ Config.maxInstrBytes := by decide

theorem two : (2 : Nat) = 2 ∧ 1 ≤ 2 ∧ 2 ≤ Config.maxInstrBytes := by decide

theorem three : (3 : Nat) = 3 ∧ 1 ≤ 3 ∧ 3 ≤ Config.maxInstrBytes := by decide

/-- Opcode, rm side, and an immediate of at most two bytes. -/
theorem withRM {R : Type} (code : R → BitVec 3) (op : Byte) (reg : BitVec 3) (rm : RM R) (imm : List Byte)
    (h : imm.length ≤ 2) :
    (op :: (encodeRM code reg rm ++ imm)).length = rm.len + imm.length ∧ 1 ≤ rm.len + imm.length ∧
      rm.len + imm.length ≤ Config.maxInstrBytes := by
  have b := RM.len_bounds rm
  have e := length_encodeRM code reg rm
  simp only [List.length_cons, List.length_append, Config.maxInstrBytes]
  omega

/-- Opcode and rm side. -/
theorem bareRM {R : Type} (code : R → BitVec 3) (op : Byte) (reg : BitVec 3) (rm : RM R) :
    (op :: encodeRM code reg rm).length = rm.len ∧ 1 ≤ rm.len ∧ rm.len ≤ Config.maxInstrBytes := by
  have b := RM.len_bounds rm
  have e := length_encodeRM code reg rm
  simp only [List.length_cons, Config.maxInstrBytes]
  omega

/-- Opcode and a memory form. -/
theorem bareMem (op : Byte) (reg : BitVec 3) (m : MemForm) :
    (op :: encodeMem reg m).length = m.len ∧ 1 ≤ m.len ∧ m.len ≤ Config.maxInstrBytes := by
  cases m <;> exact ⟨rfl, by simp [MemForm.len], by simp [MemForm.len, Config.maxInstrBytes]⟩

theorem one_le_two : (1 : Nat) ≤ 2 := Nat.le_succ 1

theorem two_le_two : (2 : Nat) ≤ 2 := Nat.le_refl 2

theorem addRm8R8 (dst : RM Reg8) (src : Reg8) : Statement (.addRm8R8 dst src) := bareRM _ _ _ dst
theorem addRm16R16 (dst : RM Reg16) (src : Reg16) : Statement (.addRm16R16 dst src) := bareRM _ _ _ dst
theorem addR8Rm8 (dst : Reg8) (src : RM Reg8) : Statement (.addR8Rm8 dst src) := bareRM _ _ _ src
theorem addR16Rm16 (dst : Reg16) (src : RM Reg16) : Statement (.addR16Rm16 dst src) := bareRM _ _ _ src
theorem addAlImm8 (imm : Byte) : Statement (.addAlImm8 imm) := two
theorem addAxImm16 (imm : Word) : Statement (.addAxImm16 imm) := three
theorem orRm8R8 (dst : RM Reg8) (src : Reg8) : Statement (.orRm8R8 dst src) := bareRM _ _ _ dst
theorem orRm16R16 (dst : RM Reg16) (src : Reg16) : Statement (.orRm16R16 dst src) := bareRM _ _ _ dst
theorem orR8Rm8 (dst : Reg8) (src : RM Reg8) : Statement (.orR8Rm8 dst src) := bareRM _ _ _ src
theorem orR16Rm16 (dst : Reg16) (src : RM Reg16) : Statement (.orR16Rm16 dst src) := bareRM _ _ _ src
theorem orAlImm8 (imm : Byte) : Statement (.orAlImm8 imm) := two
theorem orAxImm16 (imm : Word) : Statement (.orAxImm16 imm) := three
theorem adcRm8R8 (dst : RM Reg8) (src : Reg8) : Statement (.adcRm8R8 dst src) := bareRM _ _ _ dst
theorem adcRm16R16 (dst : RM Reg16) (src : Reg16) : Statement (.adcRm16R16 dst src) := bareRM _ _ _ dst
theorem adcR8Rm8 (dst : Reg8) (src : RM Reg8) : Statement (.adcR8Rm8 dst src) := bareRM _ _ _ src
theorem adcR16Rm16 (dst : Reg16) (src : RM Reg16) : Statement (.adcR16Rm16 dst src) := bareRM _ _ _ src
theorem adcAlImm8 (imm : Byte) : Statement (.adcAlImm8 imm) := two
theorem adcAxImm16 (imm : Word) : Statement (.adcAxImm16 imm) := three
theorem sbbRm8R8 (dst : RM Reg8) (src : Reg8) : Statement (.sbbRm8R8 dst src) := bareRM _ _ _ dst
theorem sbbRm16R16 (dst : RM Reg16) (src : Reg16) : Statement (.sbbRm16R16 dst src) := bareRM _ _ _ dst
theorem sbbR8Rm8 (dst : Reg8) (src : RM Reg8) : Statement (.sbbR8Rm8 dst src) := bareRM _ _ _ src
theorem sbbR16Rm16 (dst : Reg16) (src : RM Reg16) : Statement (.sbbR16Rm16 dst src) := bareRM _ _ _ src
theorem sbbAlImm8 (imm : Byte) : Statement (.sbbAlImm8 imm) := two
theorem sbbAxImm16 (imm : Word) : Statement (.sbbAxImm16 imm) := three
theorem andRm8R8 (dst : RM Reg8) (src : Reg8) : Statement (.andRm8R8 dst src) := bareRM _ _ _ dst
theorem andRm16R16 (dst : RM Reg16) (src : Reg16) : Statement (.andRm16R16 dst src) := bareRM _ _ _ dst
theorem andR8Rm8 (dst : Reg8) (src : RM Reg8) : Statement (.andR8Rm8 dst src) := bareRM _ _ _ src
theorem andR16Rm16 (dst : Reg16) (src : RM Reg16) : Statement (.andR16Rm16 dst src) := bareRM _ _ _ src
theorem andAlImm8 (imm : Byte) : Statement (.andAlImm8 imm) := two
theorem andAxImm16 (imm : Word) : Statement (.andAxImm16 imm) := three
theorem subRm8R8 (dst : RM Reg8) (src : Reg8) : Statement (.subRm8R8 dst src) := bareRM _ _ _ dst
theorem subRm16R16 (dst : RM Reg16) (src : Reg16) : Statement (.subRm16R16 dst src) := bareRM _ _ _ dst
theorem subR8Rm8 (dst : Reg8) (src : RM Reg8) : Statement (.subR8Rm8 dst src) := bareRM _ _ _ src
theorem subR16Rm16 (dst : Reg16) (src : RM Reg16) : Statement (.subR16Rm16 dst src) := bareRM _ _ _ src
theorem subAlImm8 (imm : Byte) : Statement (.subAlImm8 imm) := two
theorem subAxImm16 (imm : Word) : Statement (.subAxImm16 imm) := three
theorem xorRm8R8 (dst : RM Reg8) (src : Reg8) : Statement (.xorRm8R8 dst src) := bareRM _ _ _ dst
theorem xorRm16R16 (dst : RM Reg16) (src : Reg16) : Statement (.xorRm16R16 dst src) := bareRM _ _ _ dst
theorem xorR8Rm8 (dst : Reg8) (src : RM Reg8) : Statement (.xorR8Rm8 dst src) := bareRM _ _ _ src
theorem xorR16Rm16 (dst : Reg16) (src : RM Reg16) : Statement (.xorR16Rm16 dst src) := bareRM _ _ _ src
theorem xorAlImm8 (imm : Byte) : Statement (.xorAlImm8 imm) := two
theorem xorAxImm16 (imm : Word) : Statement (.xorAxImm16 imm) := three
theorem cmpRm8R8 (dst : RM Reg8) (src : Reg8) : Statement (.cmpRm8R8 dst src) := bareRM _ _ _ dst
theorem cmpRm16R16 (dst : RM Reg16) (src : Reg16) : Statement (.cmpRm16R16 dst src) := bareRM _ _ _ dst
theorem cmpR8Rm8 (dst : Reg8) (src : RM Reg8) : Statement (.cmpR8Rm8 dst src) := bareRM _ _ _ src
theorem cmpR16Rm16 (dst : Reg16) (src : RM Reg16) : Statement (.cmpR16Rm16 dst src) := bareRM _ _ _ src
theorem cmpAlImm8 (imm : Byte) : Statement (.cmpAlImm8 imm) := two
theorem cmpAxImm16 (imm : Word) : Statement (.cmpAxImm16 imm) := three
theorem pushEs : Statement (.pushEs) := one
theorem pushCs : Statement (.pushCs) := one
theorem pushSs : Statement (.pushSs) := one
theorem pushDs : Statement (.pushDs) := one
theorem popEs : Statement (.popEs) := one
theorem popSs : Statement (.popSs) := one
theorem popDs : Statement (.popDs) := one
theorem pushR16 (src : Reg16) : Statement (.pushR16 src) := one
theorem popR16 (dst : Reg16) : Statement (.popR16 dst) := one
theorem pusha : Statement (.pusha) := one
theorem popa : Statement (.popa) := one
theorem jo (disp : Byte) : Statement (.jo disp) := two
theorem jno (disp : Byte) : Statement (.jno disp) := two
theorem jb (disp : Byte) : Statement (.jb disp) := two
theorem jae (disp : Byte) : Statement (.jae disp) := two
theorem je (disp : Byte) : Statement (.je disp) := two
theorem jne (disp : Byte) : Statement (.jne disp) := two
theorem jbe (disp : Byte) : Statement (.jbe disp) := two
theorem ja (disp : Byte) : Statement (.ja disp) := two
theorem js (disp : Byte) : Statement (.js disp) := two
theorem jns (disp : Byte) : Statement (.jns disp) := two
theorem jp (disp : Byte) : Statement (.jp disp) := two
theorem jnp (disp : Byte) : Statement (.jnp disp) := two
theorem jl (disp : Byte) : Statement (.jl disp) := two
theorem jge (disp : Byte) : Statement (.jge disp) := two
theorem jle (disp : Byte) : Statement (.jle disp) := two
theorem jg (disp : Byte) : Statement (.jg disp) := two
theorem addRm8Imm8 (dst : RM Reg8) (imm : Byte) : Statement (.addRm8Imm8 dst imm) := withRM _ _ _ dst [imm] one_le_two
theorem orRm8Imm8 (dst : RM Reg8) (imm : Byte) : Statement (.orRm8Imm8 dst imm) := withRM _ _ _ dst [imm] one_le_two
theorem adcRm8Imm8 (dst : RM Reg8) (imm : Byte) : Statement (.adcRm8Imm8 dst imm) := withRM _ _ _ dst [imm] one_le_two
theorem sbbRm8Imm8 (dst : RM Reg8) (imm : Byte) : Statement (.sbbRm8Imm8 dst imm) := withRM _ _ _ dst [imm] one_le_two
theorem andRm8Imm8 (dst : RM Reg8) (imm : Byte) : Statement (.andRm8Imm8 dst imm) := withRM _ _ _ dst [imm] one_le_two
theorem subRm8Imm8 (dst : RM Reg8) (imm : Byte) : Statement (.subRm8Imm8 dst imm) := withRM _ _ _ dst [imm] one_le_two
theorem xorRm8Imm8 (dst : RM Reg8) (imm : Byte) : Statement (.xorRm8Imm8 dst imm) := withRM _ _ _ dst [imm] one_le_two
theorem cmpRm8Imm8 (dst : RM Reg8) (imm : Byte) : Statement (.cmpRm8Imm8 dst imm) := withRM _ _ _ dst [imm] one_le_two
theorem addRm16Imm16 (dst : RM Reg16) (imm : Word) : Statement (.addRm16Imm16 dst imm) := withRM _ _ _ dst (wordBytes imm) two_le_two
theorem orRm16Imm16 (dst : RM Reg16) (imm : Word) : Statement (.orRm16Imm16 dst imm) := withRM _ _ _ dst (wordBytes imm) two_le_two
theorem adcRm16Imm16 (dst : RM Reg16) (imm : Word) : Statement (.adcRm16Imm16 dst imm) := withRM _ _ _ dst (wordBytes imm) two_le_two
theorem sbbRm16Imm16 (dst : RM Reg16) (imm : Word) : Statement (.sbbRm16Imm16 dst imm) := withRM _ _ _ dst (wordBytes imm) two_le_two
theorem andRm16Imm16 (dst : RM Reg16) (imm : Word) : Statement (.andRm16Imm16 dst imm) := withRM _ _ _ dst (wordBytes imm) two_le_two
theorem subRm16Imm16 (dst : RM Reg16) (imm : Word) : Statement (.subRm16Imm16 dst imm) := withRM _ _ _ dst (wordBytes imm) two_le_two
theorem xorRm16Imm16 (dst : RM Reg16) (imm : Word) : Statement (.xorRm16Imm16 dst imm) := withRM _ _ _ dst (wordBytes imm) two_le_two
theorem cmpRm16Imm16 (dst : RM Reg16) (imm : Word) : Statement (.cmpRm16Imm16 dst imm) := withRM _ _ _ dst (wordBytes imm) two_le_two
theorem addRm16SImm8 (dst : RM Reg16) (imm : Byte) : Statement (.addRm16SImm8 dst imm) := withRM _ _ _ dst [imm] one_le_two
theorem orRm16SImm8 (dst : RM Reg16) (imm : Byte) : Statement (.orRm16SImm8 dst imm) := withRM _ _ _ dst [imm] one_le_two
theorem adcRm16SImm8 (dst : RM Reg16) (imm : Byte) : Statement (.adcRm16SImm8 dst imm) := withRM _ _ _ dst [imm] one_le_two
theorem sbbRm16SImm8 (dst : RM Reg16) (imm : Byte) : Statement (.sbbRm16SImm8 dst imm) := withRM _ _ _ dst [imm] one_le_two
theorem andRm16SImm8 (dst : RM Reg16) (imm : Byte) : Statement (.andRm16SImm8 dst imm) := withRM _ _ _ dst [imm] one_le_two
theorem subRm16SImm8 (dst : RM Reg16) (imm : Byte) : Statement (.subRm16SImm8 dst imm) := withRM _ _ _ dst [imm] one_le_two
theorem xorRm16SImm8 (dst : RM Reg16) (imm : Byte) : Statement (.xorRm16SImm8 dst imm) := withRM _ _ _ dst [imm] one_le_two
theorem cmpRm16SImm8 (dst : RM Reg16) (imm : Byte) : Statement (.cmpRm16SImm8 dst imm) := withRM _ _ _ dst [imm] one_le_two
theorem movRm8R8 (dst : RM Reg8) (src : Reg8) : Statement (.movRm8R8 dst src) := bareRM _ _ _ dst
theorem movRm16R16 (dst : RM Reg16) (src : Reg16) : Statement (.movRm16R16 dst src) := bareRM _ _ _ dst
theorem movR8Rm8 (dst : Reg8) (src : RM Reg8) : Statement (.movR8Rm8 dst src) := bareRM _ _ _ src
theorem movR16Rm16 (dst : Reg16) (src : RM Reg16) : Statement (.movR16Rm16 dst src) := bareRM _ _ _ src
theorem movRm16Sreg (dst : RM Reg16) (src : SReg) : Statement (.movRm16Sreg dst src) := bareRM _ _ _ dst
theorem movSregRm16 (dst : SReg) (src : RM Reg16) : Statement (.movSregRm16 dst src) := bareRM _ _ _ src
theorem movR8Imm8 (dst : Reg8) (imm : Byte) : Statement (.movR8Imm8 dst imm) := two
theorem movR16Imm16 (dst : Reg16) (imm : Word) : Statement (.movR16Imm16 dst imm) := three
theorem retImm16 (imm : Word) : Statement (.retImm16 imm) := three
theorem ret : Statement (.ret) := one
theorem les (dst : Reg16) (src : MemForm) : Statement (.les dst src) := bareMem _ _ src
theorem lds (dst : Reg16) (src : MemForm) : Statement (.lds dst src) := bareMem _ _ src
theorem int (vector : Byte) : Statement (.int vector) := two

end Sys2Proof.Laws.EncodingLength
end

