-- ==== Sys2Proof/Tests/Slice0.lean ====
section
/-!
SUPPORT. Small tests: the syntax check, decoding of words written out from the spec, one step of every instruction on the
worked examples of the spec's own rules, and a witness for the hypotheses of every statement.
-/

namespace Sys2Proof.Tests

open Sys2Proof.Machine Sys2Proof.Statements

/-! ## Helpers -/

/-- The state `s` about to run the given bytes at `a` (below 65536), in a conventional run. -/
def start (a : Nat) (bytes : List Byte) (s : State) : State :=
  { s with ip := a, frames := [.run 65536], mem := Memory.setBytes s.mem a bytes }

/-- What is read off the state after one step; none when the step stops. -/
def after {α : Type} (s : State) (f : State → α) : Option α :=
  match step s with
  | .next t => some (f t)
  | .fault _ => none
  | .refused _ => none

/-- The fault of one step. -/
def stops (s : State) : Option Fault :=
  match step s with
  | .next _ => none
  | .fault e => some e
  | .refused _ => none

/-- The instruction the decoder reads, none where it refuses. -/
def read (bytes : List Byte) : Option Instr :=
  match decode bytes with
  | .ok i => some i
  | .error _ => none

/-- The instruction goes on to a next state. -/
def completes (i : Instr) (s : State) : Bool :=
  match exec i s with
  | .next _ => true
  | .fault _ => false
  | .refused _ => false

/-- CF, PF, ZF, SF, OF. -/
def status (s : State) : List Nat :=
  [s.flags.CF.toNat, s.flags.PF.toNat, s.flags.ZF.toNat, s.flags.SF.toNat, s.flags.OF.toNat]

/-- Reset with some flags set. -/
def flagged (f : Flags → Flags) : State := { State.reset with flags := f State.reset.flags }

/-- Write a byte of memory. -/
def poke (a : Nat) (v : Byte) (s : State) : State := s.setMem (Memory.setByte s.mem a v)

/-- Write a word of memory, low byte first. -/
def pokeW (a : Nat) (v : Word) (s : State) : State := pokeAll a [lowByte v, highByte v] s
where
  /-- Write bytes of memory. -/
  pokeAll (a : Nat) (bs : List Byte) (s : State) : State := s.setMem (Memory.setBytes s.mem a bs)

/-- Reset with the stack at SS:SP. -/
def stack (ss sp : Word) : State := (State.reset.setSeg .ss ss).setReg16 .sp sp

/-- Reset with DS set. -/
def data (ds : Word) : State := State.reset.setSeg .ds ds

/-! ## Well-formedness -/

/-- `[bp]` without a displacement has no encoding (R106): refused as a destination, as a source and as a far pointer. -/
theorem test_wellFormed_refuses_bp_without_displacement :
    Instr.wellFormed (.movRm16R16 (.mem (.base .bp)) .ax) = false ∧
    Instr.wellFormed (.addR8Rm8 .al (.mem (.base .bp))) = false ∧
    Instr.wellFormed (.cmpRm16SImm8 (.mem (.base .bp)) 0) = false ∧
    Instr.wellFormed (.lds .si (.base .bp)) = false ∧
    Instr.wellFormed (.movRm16R16 (.mem (.disp8 .bp 0)) .ax) = true := by decide

/-! ## Decoding: the bytes and the assembler text of the worked example of each rule -/

/-- The examples of R161, R167, R173, R179, R185, R191, R197, R203. -/
theorem test_decode_alu_rm8_r8 :
    read [0x00, 0xC3] = some (.addRm8R8 (.reg .bl) .al) ∧
    read [0x08, 0xC3] = some (.orRm8R8 (.reg .bl) .al) ∧
    read [0x10, 0xC3] = some (.adcRm8R8 (.reg .bl) .al) ∧
    read [0x18, 0xC3] = some (.sbbRm8R8 (.reg .bl) .al) ∧
    read [0x20, 0xC3] = some (.andRm8R8 (.reg .bl) .al) ∧
    read [0x28, 0xC3] = some (.subRm8R8 (.reg .bl) .al) ∧
    read [0x30, 0xC3] = some (.xorRm8R8 (.reg .bl) .al) ∧
    read [0x38, 0xC3] = some (.cmpRm8R8 (.reg .bl) .al) := by decide

/-- The examples of R162 to R204. -/
theorem test_decode_alu_rm16_r16 :
    read [0x01, 0x07] = some (.addRm16R16 (.mem (.base .bx)) .ax) ∧
    read [0x09, 0x07] = some (.orRm16R16 (.mem (.base .bx)) .ax) ∧
    read [0x11, 0x07] = some (.adcRm16R16 (.mem (.base .bx)) .ax) ∧
    read [0x19, 0x07] = some (.sbbRm16R16 (.mem (.base .bx)) .ax) ∧
    read [0x21, 0x07] = some (.andRm16R16 (.mem (.base .bx)) .ax) ∧
    read [0x29, 0x07] = some (.subRm16R16 (.mem (.base .bx)) .ax) ∧
    read [0x31, 0x07] = some (.xorRm16R16 (.mem (.base .bx)) .ax) ∧
    read [0x39, 0x07] = some (.cmpRm16R16 (.mem (.base .bx)) .ax) := by decide

/-- The examples of R163 to R205. -/
theorem test_decode_alu_r8_rm8 :
    read [0x02, 0x47, 0x05] = some (.addR8Rm8 .al (.mem (.disp8 .bx 0x05))) ∧
    read [0x0A, 0x47, 0x05] = some (.orR8Rm8 .al (.mem (.disp8 .bx 0x05))) ∧
    read [0x12, 0x47, 0x05] = some (.adcR8Rm8 .al (.mem (.disp8 .bx 0x05))) ∧
    read [0x1A, 0x47, 0x05] = some (.sbbR8Rm8 .al (.mem (.disp8 .bx 0x05))) ∧
    read [0x22, 0x47, 0x05] = some (.andR8Rm8 .al (.mem (.disp8 .bx 0x05))) ∧
    read [0x2A, 0x47, 0x05] = some (.subR8Rm8 .al (.mem (.disp8 .bx 0x05))) ∧
    read [0x32, 0x47, 0x05] = some (.xorR8Rm8 .al (.mem (.disp8 .bx 0x05))) ∧
    read [0x3A, 0x47, 0x05] = some (.cmpR8Rm8 .al (.mem (.disp8 .bx 0x05))) := by decide

/-- The examples of R164 to R206. -/
theorem test_decode_alu_r16_rm16 :
    read [0x03, 0xC1] = some (.addR16Rm16 .ax (.reg .cx)) ∧
    read [0x0B, 0xC1] = some (.orR16Rm16 .ax (.reg .cx)) ∧
    read [0x13, 0xC1] = some (.adcR16Rm16 .ax (.reg .cx)) ∧
    read [0x1B, 0xC1] = some (.sbbR16Rm16 .ax (.reg .cx)) ∧
    read [0x23, 0xC1] = some (.andR16Rm16 .ax (.reg .cx)) ∧
    read [0x2B, 0xC1] = some (.subR16Rm16 .ax (.reg .cx)) ∧
    read [0x33, 0xC1] = some (.xorR16Rm16 .ax (.reg .cx)) ∧
    read [0x3B, 0xC1] = some (.cmpR16Rm16 .ax (.reg .cx)) := by decide

/-- The examples of R165 to R207. -/
theorem test_decode_alu_al_imm8 :
    read [0x04, 0x08] = some (.addAlImm8 0x08) ∧
    read [0x0C, 0x01] = some (.orAlImm8 0x01) ∧
    read [0x14, 0x00] = some (.adcAlImm8 0x00) ∧
    read [0x1C, 0x7F] = some (.sbbAlImm8 0x7F) ∧
    read [0x24, 0x0F] = some (.andAlImm8 0x0F) ∧
    read [0x2C, 0x05] = some (.subAlImm8 0x05) ∧
    read [0x34, 0xFF] = some (.xorAlImm8 0xFF) ∧
    read [0x3C, 0x04] = some (.cmpAlImm8 0x04) := by decide

/-- The examples of R166 to R208. -/
theorem test_decode_alu_ax_imm16 :
    read [0x05, 0x01, 0x00] = some (.addAxImm16 0x0001) ∧
    read [0x0D, 0x00, 0x00] = some (.orAxImm16 0x0000) ∧
    read [0x15, 0x11, 0x11] = some (.adcAxImm16 0x1111) ∧
    read [0x1D, 0x01, 0x00] = some (.sbbAxImm16 0x0001) ∧
    read [0x25, 0x00, 0x80] = some (.andAxImm16 0x8000) ∧
    read [0x2D, 0x34, 0x12] = some (.subAxImm16 0x1234) ∧
    read [0x35, 0x34, 0x12] = some (.xorAxImm16 0x1234) ∧
    read [0x3D, 0xFF, 0xFF] = some (.cmpAxImm16 0xFFFF) := by decide

/-- The examples of R221 to R228. -/
theorem test_decode_alu_group80 :
    read [0x80, 0xC3, 0x01] = some (.addRm8Imm8 (.reg .bl) 0x01) ∧
    read [0x80, 0xCB, 0x00] = some (.orRm8Imm8 (.reg .bl) 0x00) ∧
    read [0x80, 0xD3, 0x00] = some (.adcRm8Imm8 (.reg .bl) 0x00) ∧
    read [0x80, 0xDB, 0x01] = some (.sbbRm8Imm8 (.reg .bl) 0x01) ∧
    read [0x80, 0xE3, 0x55] = some (.andRm8Imm8 (.reg .bl) 0x55) ∧
    read [0x80, 0xEB, 0x05] = some (.subRm8Imm8 (.reg .bl) 0x05) ∧
    read [0x80, 0xF3, 0xFF] = some (.xorRm8Imm8 (.reg .bl) 0xFF) ∧
    read [0x80, 0xFB, 0x10] = some (.cmpRm8Imm8 (.reg .bl) 0x10) := by decide

/-- The examples of R229 to R236. -/
theorem test_decode_alu_group81 :
    read [0x81, 0x87, 0x10, 0x00, 0x01, 0x00] = some (.addRm16Imm16 (.mem (.disp16 .bx 0x0010)) 0x0001) ∧
    read [0x81, 0x8F, 0x10, 0x00, 0xF0, 0x00] = some (.orRm16Imm16 (.mem (.disp16 .bx 0x0010)) 0x00F0) ∧
    read [0x81, 0x97, 0x10, 0x00, 0x00, 0x00] = some (.adcRm16Imm16 (.mem (.disp16 .bx 0x0010)) 0x0000) ∧
    read [0x81, 0x9F, 0x10, 0x00, 0x00, 0x00] = some (.sbbRm16Imm16 (.mem (.disp16 .bx 0x0010)) 0x0000) ∧
    read [0x81, 0xA7, 0x10, 0x00, 0xFF, 0x7F] = some (.andRm16Imm16 (.mem (.disp16 .bx 0x0010)) 0x7FFF) ∧
    read [0x81, 0xAF, 0x10, 0x00, 0x01, 0x00] = some (.subRm16Imm16 (.mem (.disp16 .bx 0x0010)) 0x0001) ∧
    read [0x81, 0xB7, 0x10, 0x00, 0xFF, 0xFF] = some (.xorRm16Imm16 (.mem (.disp16 .bx 0x0010)) 0xFFFF) ∧
    read [0x81, 0xBF, 0x10, 0x00, 0x02, 0x00] = some (.cmpRm16Imm16 (.mem (.disp16 .bx 0x0010)) 0x0002) := by decide

/-- The examples of R237 to R244. -/
theorem test_decode_alu_group83 :
    read [0x83, 0x42, 0xFE, 0xFF] = some (.addRm16SImm8 (.mem (.disp8 .bpSi 0xFE)) 0xFF) ∧
    read [0x83, 0x4A, 0xFE, 0x80] = some (.orRm16SImm8 (.mem (.disp8 .bpSi 0xFE)) 0x80) ∧
    read [0x83, 0x52, 0xFE, 0x01] = some (.adcRm16SImm8 (.mem (.disp8 .bpSi 0xFE)) 0x01) ∧
    read [0x83, 0x5A, 0xFE, 0xFF] = some (.sbbRm16SImm8 (.mem (.disp8 .bpSi 0xFE)) 0xFF) ∧
    read [0x83, 0x62, 0xFE, 0xF0] = some (.andRm16SImm8 (.mem (.disp8 .bpSi 0xFE)) 0xF0) ∧
    read [0x83, 0x6A, 0xFE, 0x10] = some (.subRm16SImm8 (.mem (.disp8 .bpSi 0xFE)) 0x10) ∧
    read [0x83, 0x72, 0xFE, 0xFF] = some (.xorRm16SImm8 (.mem (.disp8 .bpSi 0xFE)) 0xFF) ∧
    read [0x83, 0x7A, 0xFE, 0xFB] = some (.cmpRm16SImm8 (.mem (.disp8 .bpSi 0xFE)) 0xFB) := by decide

/-- The examples of R250 to R259; `B0 04`, `B4 04` and `30 C0` are the source's own bytes (R124). -/
theorem test_decode_moves :
    read [0xB0, 0x04] = some (.movR8Imm8 .al 0x04) ∧ read [0xB4, 0x04] = some (.movR8Imm8 .ah 0x04) ∧
    read [0xB7, 0x9C] = some (.movR8Imm8 .bh 0x9C) ∧ read [0x30, 0xC0] = some (.xorRm8R8 (.reg .al) .al) ∧
    read [0xB8, 0x42, 0x00] = some (.movR16Imm16 .ax 0x0042) ∧ read [0xBC, 0xFE, 0xFF] = some (.movR16Imm16 .sp 0xFFFE) ∧
    read [0x88, 0x08] = some (.movRm8R8 (.mem (.base .bxSi)) .cl) ∧
    read [0x89, 0x16, 0x00, 0x04] = some (.movRm16R16 (.mem (.direct 0x0400)) .dx) ∧
    read [0x8A, 0x65, 0xFF] = some (.movR8Rm8 .ah (.mem (.disp8 .di 0xFF))) ∧
    read [0x8B, 0xF3] = some (.movR16Rm16 .si (.reg .bx)) ∧ read [0x8C, 0xD0] = some (.movRm16Sreg (.reg .ax) .ss) ∧
    read [0x8E, 0xC0] = some (.movSregRm16 .es (.reg .ax)) ∧ read [0x8E, 0x1F] = some (.movSregRm16 .ds (.mem (.base .bx))) ∧
    read [0xC4, 0x7F, 0x04] = some (.les .di (.disp8 .bx 0x04)) ∧
    read [0xC5, 0x36, 0x00, 0x06] = some (.lds .si (.direct 0x0600)) := by decide

/-- The opcodes of R274 to R287 and R330. -/
theorem test_decode_stack_and_int :
    read [0x53] = some (.pushR16 .bx) ∧ read [0x54] = some (.pushR16 .sp) ∧ read [0x5C] = some (.popR16 .sp) ∧
    read [0x5F] = some (.popR16 .di) ∧ read [0x06] = some .pushEs ∧ read [0x0E] = some .pushCs ∧
    read [0x16] = some .pushSs ∧ read [0x1E] = some .pushDs ∧ read [0x07] = some .popEs ∧ read [0x17] = some .popSs ∧
    read [0x1F] = some .popDs ∧ read [0x60] = some .pusha ∧ read [0x61] = some .popa ∧ read [0xC3] = some .ret ∧
    read [0xC2, 0x04, 0x00] = some (.retImm16 0x0004) ∧ read [0xCD, 0x21] = some (.int 0x21) := by decide

/-- The opcodes and examples of R302 to R317. -/
theorem test_decode_jumps :
    read [0x70, 0x05] = some (.jo 0x05) ∧ read [0x71, 0x10] = some (.jno 0x10) ∧ read [0x72, 0xFE] = some (.jb 0xFE) ∧
    read [0x73, 0x7F] = some (.jae 0x7F) ∧ read [0x74, 0x80] = some (.je 0x80) ∧ read [0x75, 0xFA] = some (.jne 0xFA) ∧
    read [0x76, 0x02] = some (.jbe 0x02) ∧ read [0x77, 0x20] = some (.ja 0x20) ∧ read [0x78, 0xF0] = some (.js 0xF0) ∧
    read [0x79, 0x08] = some (.jns 0x08) ∧ read [0x7A, 0x01] = some (.jp 0x01) ∧ read [0x7B, 0xFC] = some (.jnp 0xFC) ∧
    read [0x7C, 0x06] = some (.jl 0x06) ∧ read [0x7D, 0x7E] = some (.jge 0x7E) ∧ read [0x7E, 0xF8] = some (.jle 0xF8) ∧
    read [0x7F, 0x04] = some (.jg 0x04) := by decide

/-- What the decoder refuses, by name: a prefix (R119), 82h (R119), `8C E0` (R256), LES with mod 11 (R258), and an
instruction cut short, at the field that is not all there (R349). -/
theorem test_decode_refuses :
    decode [0x26, 0x8B, 0x07] = .error (.opcode 0x26) ∧ decode [0x82, 0xC0, 0x01] = .error (.opcode 0x82) ∧
    decode [0x8C, 0xE0] = .error (.modrm 0x8C 0xE0) ∧ decode [0xC4, 0xC7] = .error (.modrm 0xC4 0xC7) ∧
    decode [] = .error (.missing 0) ∧ decode [0x00] = .error (.missing 1) ∧
    decode [0x89, 0x16, 0x00] = .error (.missing 2) ∧ decode [0x81, 0x06, 0x00, 0x04, 0x01] = .error (.missing 4) ∧
    decode [0xB8, 0x42] = .error (.missing 1) := by decide

/-- A 16-bit table word holds the opcode in bits 15..8 (R123, log 1); `withFetchWord` places it where the first step after
reset fetches. -/
theorem test_table_words :
    decodeTableWord 16 0x8300 = some (.addRm16SImm8 (.mem (.base .bxSi)) 0) ∧
    decodeTableWord 16 0xB400 = some (.movR8Imm8 .ah 0) ∧ decodeTableWord 16 0xC300 = some .ret ∧
    decodeTableWord 16 0x30C0 = some (.xorRm8R8 (.reg .al) .al) ∧ decodeTableWord 16 0x0F00 = none ∧
    after (State.reset.withFetchWord 16 0xB405) (fun t => (t.reg16 .ax, t.ip)) = some (0x0500, 0x102) ∧
    after (State.reset.withFetchWord 16 0x6000) (fun t => (t.reg16 .sp, t.ip)) = some (0xFFF0, 0x101) := by decide

/-! ## One step: the worked examples of the ALU rules -/

/-- The examples of R161, R167, R173, R179, R185, R191, R197, R203. -/
theorem test_step_alu_rm8_r8 :
    [after (start 0x0100 [0x00, 0xC3] ((State.reset.setReg8 .bl 0x80).setReg8 .al 0x80)) (fun t => (t.reg8 .bl, status t, t.ip)),
     after (start 0x0100 [0x08, 0xC3] ((State.reset.setReg8 .bl 0x0F).setReg8 .al 0xF0)) (fun t => (t.reg8 .bl, status t, t.ip)),
     after (start 0x0100 [0x10, 0xC3] (((flagged fun f => { f with CF := true }).setReg8 .bl 0xFF).setReg8 .al 0x00)) (fun t => (t.reg8 .bl, status t, t.ip)),
     after (start 0x0100 [0x18, 0xC3] (((flagged fun f => { f with CF := true }).setReg8 .bl 0x00).setReg8 .al 0x00)) (fun t => (t.reg8 .bl, status t, t.ip)),
     after (start 0x0100 [0x20, 0xC3] ((State.reset.setReg8 .bl 0xF0).setReg8 .al 0x0F)) (fun t => (t.reg8 .bl, status t, t.ip)),
     after (start 0x0100 [0x28, 0xC3] ((State.reset.setReg8 .bl 0x80).setReg8 .al 0x01)) (fun t => (t.reg8 .bl, status t, t.ip)),
     after (start 0x0100 [0x30, 0xC3] ((State.reset.setReg8 .bl 0x80).setReg8 .al 0x80)) (fun t => (t.reg8 .bl, status t, t.ip)),
     after (start 0x0100 [0x38, 0xC3] ((State.reset.setReg8 .bl 0x05).setReg8 .al 0x05)) (fun t => (t.reg8 .bl, status t, t.ip))] =
    [some (0x00, [1, 1, 1, 0, 1], 0x0102),
     some (0xFF, [0, 1, 0, 1, 0], 0x0102),
     some (0x00, [1, 1, 1, 0, 0], 0x0102),
     some (0xFF, [1, 1, 0, 1, 0], 0x0102),
     some (0x00, [0, 1, 1, 0, 0], 0x0102),
     some (0x7F, [0, 0, 0, 0, 1], 0x0102),
     some (0x00, [0, 1, 1, 0, 0], 0x0102),
     some (0x05, [0, 1, 1, 0, 0], 0x0102)] := by decide

/-- The examples of R162 to R204. -/
theorem test_step_alu_rm16_r16 :
    [after (start 0x0100 [0x01, 0x07] (pokeW 0x0200 0xEDCC (((State.reset.setSeg .ds 0).setReg16 .bx 0x0200).setReg16 .ax 0x1234))) (fun t => (Memory.word t.mem 0x0200, status t, t.ip)),
     after (start 0x0100 [0x09, 0x07] (pokeW 0x0200 0x8000 (((State.reset.setSeg .ds 0).setReg16 .bx 0x0200).setReg16 .ax 0x0001))) (fun t => (Memory.word t.mem 0x0200, status t, t.ip)),
     after (start 0x0100 [0x11, 0x07] (pokeW 0x0200 0x7FFF ((((flagged fun f => { f with CF := true }).setSeg .ds 0).setReg16 .bx 0x0200).setReg16 .ax 0x0000))) (fun t => (Memory.word t.mem 0x0200, status t, t.ip)),
     after (start 0x0100 [0x19, 0x07] (pokeW 0x0200 0x8000 ((((flagged fun f => { f with CF := true }).setSeg .ds 0).setReg16 .bx 0x0200).setReg16 .ax 0x0000))) (fun t => (Memory.word t.mem 0x0200, status t, t.ip)),
     after (start 0x0100 [0x21, 0x07] (pokeW 0x0200 0x8001 (((State.reset.setSeg .ds 0).setReg16 .bx 0x0200).setReg16 .ax 0x8000))) (fun t => (Memory.word t.mem 0x0200, status t, t.ip)),
     after (start 0x0100 [0x29, 0x07] (pokeW 0x0200 0x0001 (((State.reset.setSeg .ds 0).setReg16 .bx 0x0200).setReg16 .ax 0x0002))) (fun t => (Memory.word t.mem 0x0200, status t, t.ip)),
     after (start 0x0100 [0x31, 0x07] (pokeW 0x0200 0xFFFF (((State.reset.setSeg .ds 0).setReg16 .bx 0x0200).setReg16 .ax 0x00FF))) (fun t => (Memory.word t.mem 0x0200, status t, t.ip)),
     after (start 0x0100 [0x39, 0x07] (pokeW 0x0200 0x0001 (((State.reset.setSeg .ds 0).setReg16 .bx 0x0200).setReg16 .ax 0xFFFF))) (fun t => (Memory.word t.mem 0x0200, status t, t.ip))] =
    [some (0x0000, [1, 1, 1, 0, 0], 0x0102),
     some (0x8001, [0, 0, 0, 1, 0], 0x0102),
     some (0x8000, [0, 1, 0, 1, 1], 0x0102),
     some (0x7FFF, [0, 1, 0, 0, 1], 0x0102),
     some (0x8000, [0, 1, 0, 1, 0], 0x0102),
     some (0xFFFF, [1, 1, 0, 1, 0], 0x0102),
     some (0xFF00, [0, 1, 0, 1, 0], 0x0102),
     some (0x0001, [1, 0, 0, 0, 0], 0x0102)] := by decide

/-- The examples of R163 to R205. -/
theorem test_step_alu_r8_rm8 :
    [after (start 0x0100 [0x02, 0x47, 0x05] (poke 0x0205 0x01 (((State.reset.setSeg .ds 0).setReg16 .bx 0x0200).setReg8 .al 0x7F))) (fun t => (t.reg8 .al, status t, t.ip)),
     after (start 0x0100 [0x0A, 0x47, 0x05] (poke 0x0205 0x00 (((State.reset.setSeg .ds 0).setReg16 .bx 0x0200).setReg8 .al 0x00))) (fun t => (t.reg8 .al, status t, t.ip)),
     after (start 0x0100 [0x12, 0x47, 0x05] (poke 0x0205 0x20 ((((flagged fun f => { f with CF := true }).setSeg .ds 0).setReg16 .bx 0x0200).setReg8 .al 0x10))) (fun t => (t.reg8 .al, status t, t.ip)),
     after (start 0x0100 [0x1A, 0x47, 0x05] (poke 0x0205 0x05 ((((flagged fun f => { f with CF := true }).setSeg .ds 0).setReg16 .bx 0x0200).setReg8 .al 0x10))) (fun t => (t.reg8 .al, status t, t.ip)),
     after (start 0x0100 [0x22, 0x47, 0x05] (poke 0x0205 0x81 (((State.reset.setSeg .ds 0).setReg16 .bx 0x0200).setReg8 .al 0xFF))) (fun t => (t.reg8 .al, status t, t.ip)),
     after (start 0x0100 [0x2A, 0x47, 0x05] (poke 0x0205 0x05 (((State.reset.setSeg .ds 0).setReg16 .bx 0x0200).setReg8 .al 0x05))) (fun t => (t.reg8 .al, status t, t.ip)),
     after (start 0x0100 [0x32, 0x47, 0x05] (poke 0x0205 0xF0 (((State.reset.setSeg .ds 0).setReg16 .bx 0x0200).setReg8 .al 0x0F))) (fun t => (t.reg8 .al, status t, t.ip)),
     after (start 0x0100 [0x3A, 0x47, 0x05] (poke 0x0205 0x80 (((State.reset.setSeg .ds 0).setReg16 .bx 0x0200).setReg8 .al 0x7F))) (fun t => (t.reg8 .al, status t, t.ip))] =
    [some (0x80, [0, 0, 0, 1, 1], 0x0103),
     some (0x00, [0, 1, 1, 0, 0], 0x0103),
     some (0x31, [0, 0, 0, 0, 0], 0x0103),
     some (0x0A, [0, 1, 0, 0, 0], 0x0103),
     some (0x81, [0, 1, 0, 1, 0], 0x0103),
     some (0x00, [0, 1, 1, 0, 0], 0x0103),
     some (0xFF, [0, 1, 0, 1, 0], 0x0103),
     some (0x7F, [1, 1, 0, 1, 1], 0x0103)] := by decide

/-- The examples of R164 to R206. -/
theorem test_step_alu_r16_rm16 :
    [after (start 0x0100 [0x03, 0xC1] ((State.reset.setReg16 .ax 0xFFFF).setReg16 .cx 0x0001)) (fun t => (t.reg16 .ax, status t, t.ip)),
     after (start 0x0100 [0x0B, 0xC1] ((State.reset.setReg16 .ax 0x1234).setReg16 .cx 0x00FF)) (fun t => (t.reg16 .ax, status t, t.ip)),
     after (start 0x0100 [0x13, 0xC1] (((flagged fun f => { f with CF := true }).setReg16 .ax 0xFFFF).setReg16 .cx 0xFFFF)) (fun t => (t.reg16 .ax, status t, t.ip)),
     after (start 0x0100 [0x1B, 0xC1] ((State.reset.setReg16 .ax 0x0005).setReg16 .cx 0x0005)) (fun t => (t.reg16 .ax, status t, t.ip)),
     after (start 0x0100 [0x23, 0xC1] ((State.reset.setReg16 .ax 0x1234).setReg16 .cx 0x0000)) (fun t => (t.reg16 .ax, status t, t.ip)),
     after (start 0x0100 [0x2B, 0xC1] ((State.reset.setReg16 .ax 0x8000).setReg16 .cx 0x0001)) (fun t => (t.reg16 .ax, status t, t.ip)),
     after (start 0x0100 [0x33, 0xC1] ((State.reset.setReg16 .ax 0x8000).setReg16 .cx 0x8000)) (fun t => (t.reg16 .ax, status t, t.ip)),
     after (start 0x0100 [0x3B, 0xC1] ((State.reset.setReg16 .ax 0x8000).setReg16 .cx 0x0001)) (fun t => (t.reg16 .ax, status t, t.ip))] =
    [some (0x0000, [1, 1, 1, 0, 0], 0x0102),
     some (0x12FF, [0, 1, 0, 0, 0], 0x0102),
     some (0xFFFF, [1, 1, 0, 1, 0], 0x0102),
     some (0x0000, [0, 1, 1, 0, 0], 0x0102),
     some (0x0000, [0, 1, 1, 0, 0], 0x0102),
     some (0x7FFF, [0, 1, 0, 0, 1], 0x0102),
     some (0x0000, [0, 1, 1, 0, 0], 0x0102),
     some (0x8000, [0, 1, 0, 0, 1], 0x0102)] := by decide

/-- The examples of R165 to R207. -/
theorem test_step_alu_al_imm8 :
    [after (start 0x0100 [0x04, 0x08] (State.reset.setReg8 .al 0x04)) (fun t => (t.reg8 .al, status t, t.ip)),
     after (start 0x0100 [0x0C, 0x01] (State.reset.setReg8 .al 0x40)) (fun t => (t.reg8 .al, status t, t.ip)),
     after (start 0x0100 [0x14, 0x00] ((flagged fun f => { f with CF := true }).setReg8 .al 0x7F)) (fun t => (t.reg8 .al, status t, t.ip)),
     after (start 0x0100 [0x1C, 0x7F] ((flagged fun f => { f with CF := true }).setReg8 .al 0x80)) (fun t => (t.reg8 .al, status t, t.ip)),
     after (start 0x0100 [0x24, 0x0F] (State.reset.setReg8 .al 0xAA)) (fun t => (t.reg8 .al, status t, t.ip)),
     after (start 0x0100 [0x2C, 0x05] (State.reset.setReg8 .al 0x04)) (fun t => (t.reg8 .al, status t, t.ip)),
     after (start 0x0100 [0x34, 0xFF] (State.reset.setReg8 .al 0x55)) (fun t => (t.reg8 .al, status t, t.ip)),
     after (start 0x0100 [0x3C, 0x04] (State.reset.setReg8 .al 0x03)) (fun t => (t.reg8 .al, status t, t.ip))] =
    [some (0x0C, [0, 1, 0, 0, 0], 0x0102),
     some (0x41, [0, 1, 0, 0, 0], 0x0102),
     some (0x80, [0, 0, 0, 1, 1], 0x0102),
     some (0x00, [0, 1, 1, 0, 1], 0x0102),
     some (0x0A, [0, 1, 0, 0, 0], 0x0102),
     some (0xFF, [1, 1, 0, 1, 0], 0x0102),
     some (0xAA, [0, 1, 0, 1, 0], 0x0102),
     some (0x03, [1, 1, 0, 1, 0], 0x0102)] := by decide

/-- The examples of R166 to R208. -/
theorem test_step_alu_ax_imm16 :
    [after (start 0x0100 [0x05, 0x01, 0x00] (State.reset.setReg16 .ax 0x7FFF)) (fun t => (t.reg16 .ax, status t, t.ip)),
     after (start 0x0100 [0x0D, 0x00, 0x00] (State.reset.setReg16 .ax 0x0000)) (fun t => (t.reg16 .ax, status t, t.ip)),
     after (start 0x0100 [0x15, 0x11, 0x11] (State.reset.setReg16 .ax 0x1234)) (fun t => (t.reg16 .ax, status t, t.ip)),
     after (start 0x0100 [0x1D, 0x01, 0x00] (State.reset.setReg16 .ax 0x0000)) (fun t => (t.reg16 .ax, status t, t.ip)),
     after (start 0x0100 [0x25, 0x00, 0x80] (State.reset.setReg16 .ax 0xFFFF)) (fun t => (t.reg16 .ax, status t, t.ip)),
     after (start 0x0100 [0x2D, 0x34, 0x12] (State.reset.setReg16 .ax 0x1234)) (fun t => (t.reg16 .ax, status t, t.ip)),
     after (start 0x0100 [0x35, 0x34, 0x12] (State.reset.setReg16 .ax 0x1234)) (fun t => (t.reg16 .ax, status t, t.ip)),
     after (start 0x0100 [0x3D, 0xFF, 0xFF] (State.reset.setReg16 .ax 0xFFFF)) (fun t => (t.reg16 .ax, status t, t.ip))] =
    [some (0x8000, [0, 1, 0, 1, 1], 0x0103),
     some (0x0000, [0, 1, 1, 0, 0], 0x0103),
     some (0x2345, [0, 0, 0, 0, 0], 0x0103),
     some (0xFFFF, [1, 1, 0, 1, 0], 0x0103),
     some (0x8000, [0, 1, 0, 1, 0], 0x0103),
     some (0x0000, [0, 1, 1, 0, 0], 0x0103),
     some (0x0000, [0, 1, 1, 0, 0], 0x0103),
     some (0xFFFF, [0, 1, 1, 0, 0], 0x0103)] := by decide

/-- The examples of R221 to R228. -/
theorem test_step_alu_group80 :
    [after (start 0x1000 [0x80, 0xC3, 0x01] (State.reset.setReg8 .bl 0x7F)) (fun t => (t.reg8 .bl, status t, t.ip)),
     after (start 0x1000 [0x80, 0xCB, 0x00] (State.reset.setReg8 .bl 0x00)) (fun t => (t.reg8 .bl, status t, t.ip)),
     after (start 0x1000 [0x80, 0xD3, 0x00] ((flagged fun f => { f with CF := true }).setReg8 .bl 0xFF)) (fun t => (t.reg8 .bl, status t, t.ip)),
     after (start 0x1000 [0x80, 0xDB, 0x01] ((flagged fun f => { f with CF := true }).setReg8 .bl 0x00)) (fun t => (t.reg8 .bl, status t, t.ip)),
     after (start 0x1000 [0x80, 0xE3, 0x55] (State.reset.setReg8 .bl 0xAA)) (fun t => (t.reg8 .bl, status t, t.ip)),
     after (start 0x1000 [0x80, 0xEB, 0x05] (State.reset.setReg8 .bl 0x03)) (fun t => (t.reg8 .bl, status t, t.ip)),
     after (start 0x1000 [0x80, 0xF3, 0xFF] (State.reset.setReg8 .bl 0xFF)) (fun t => (t.reg8 .bl, status t, t.ip)),
     after (start 0x1000 [0x80, 0xFB, 0x10] (State.reset.setReg8 .bl 0x10)) (fun t => (t.reg8 .bl, status t, t.ip))] =
    [some (0x80, [0, 0, 0, 1, 1], 0x1003),
     some (0x00, [0, 1, 1, 0, 0], 0x1003),
     some (0x00, [1, 1, 1, 0, 0], 0x1003),
     some (0xFE, [1, 0, 0, 1, 0], 0x1003),
     some (0x00, [0, 1, 1, 0, 0], 0x1003),
     some (0xFE, [1, 0, 0, 1, 0], 0x1003),
     some (0x00, [0, 1, 1, 0, 0], 0x1003),
     some (0x10, [0, 1, 1, 0, 0], 0x1003)] := by decide

/-- The examples of R229 to R236. -/
theorem test_step_alu_group81 :
    [after (start 0x1000 [0x81, 0x87, 0x10, 0x00, 0x01, 0x00] (pokeW 0x0310 0xFFFF ((State.reset.setSeg .ds 0x0020).setReg16 .bx 0x0100))) (fun t => (Memory.word t.mem 0x0310, status t, t.ip)),
     after (start 0x1000 [0x81, 0x8F, 0x10, 0x00, 0xF0, 0x00] (pokeW 0x0310 0x0F00 ((State.reset.setSeg .ds 0x0020).setReg16 .bx 0x0100))) (fun t => (Memory.word t.mem 0x0310, status t, t.ip)),
     after (start 0x1000 [0x81, 0x97, 0x10, 0x00, 0x00, 0x00] (pokeW 0x0310 0x7FFF (((flagged fun f => { f with CF := true }).setSeg .ds 0x0020).setReg16 .bx 0x0100))) (fun t => (Memory.word t.mem 0x0310, status t, t.ip)),
     after (start 0x1000 [0x81, 0x9F, 0x10, 0x00, 0x00, 0x00] (pokeW 0x0310 0x8000 (((flagged fun f => { f with CF := true }).setSeg .ds 0x0020).setReg16 .bx 0x0100))) (fun t => (Memory.word t.mem 0x0310, status t, t.ip)),
     after (start 0x1000 [0x81, 0xA7, 0x10, 0x00, 0xFF, 0x7F] (pokeW 0x0310 0x8001 ((State.reset.setSeg .ds 0x0020).setReg16 .bx 0x0100))) (fun t => (Memory.word t.mem 0x0310, status t, t.ip)),
     after (start 0x1000 [0x81, 0xAF, 0x10, 0x00, 0x01, 0x00] (pokeW 0x0310 0x8000 ((State.reset.setSeg .ds 0x0020).setReg16 .bx 0x0100))) (fun t => (Memory.word t.mem 0x0310, status t, t.ip)),
     after (start 0x1000 [0x81, 0xB7, 0x10, 0x00, 0xFF, 0xFF] (pokeW 0x0310 0x00FF ((State.reset.setSeg .ds 0x0020).setReg16 .bx 0x0100))) (fun t => (Memory.word t.mem 0x0310, status t, t.ip)),
     after (start 0x1000 [0x81, 0xBF, 0x10, 0x00, 0x02, 0x00] (pokeW 0x0310 0x0001 ((State.reset.setSeg .ds 0x0020).setReg16 .bx 0x0100))) (fun t => (Memory.word t.mem 0x0310, status t, t.ip))] =
    [some (0x0000, [1, 1, 1, 0, 0], 0x1006),
     some (0x0FF0, [0, 1, 0, 0, 0], 0x1006),
     some (0x8000, [0, 1, 0, 1, 1], 0x1006),
     some (0x7FFF, [0, 1, 0, 0, 1], 0x1006),
     some (0x0001, [0, 0, 0, 0, 0], 0x1006),
     some (0x7FFF, [0, 1, 0, 0, 1], 0x1006),
     some (0xFF00, [0, 1, 0, 1, 0], 0x1006),
     some (0x0001, [1, 1, 0, 1, 0], 0x1006)] := by decide

/-- The examples of R237 to R244. -/
theorem test_step_alu_group83 :
    [after (start 0x1000 [0x83, 0x42, 0xFE, 0xFF] (pokeW 0x0202 0x0005 (((State.reset.setSeg .ss 0x0010).setReg16 .bp 0x0100).setReg16 .si 0x0004))) (fun t => (Memory.word t.mem 0x0202, status t, t.ip)),
     after (start 0x1000 [0x83, 0x4A, 0xFE, 0x80] (pokeW 0x0202 0x0000 (((State.reset.setSeg .ss 0x0010).setReg16 .bp 0x0100).setReg16 .si 0x0004))) (fun t => (Memory.word t.mem 0x0202, status t, t.ip)),
     after (start 0x1000 [0x83, 0x52, 0xFE, 0x01] (pokeW 0x0202 0xFFFE ((((flagged fun f => { f with CF := true }).setSeg .ss 0x0010).setReg16 .bp 0x0100).setReg16 .si 0x0004))) (fun t => (Memory.word t.mem 0x0202, status t, t.ip)),
     after (start 0x1000 [0x83, 0x5A, 0xFE, 0xFF] (pokeW 0x0202 0x0000 (((State.reset.setSeg .ss 0x0010).setReg16 .bp 0x0100).setReg16 .si 0x0004))) (fun t => (Memory.word t.mem 0x0202, status t, t.ip)),
     after (start 0x1000 [0x83, 0x62, 0xFE, 0xF0] (pokeW 0x0202 0x1234 (((State.reset.setSeg .ss 0x0010).setReg16 .bp 0x0100).setReg16 .si 0x0004))) (fun t => (Memory.word t.mem 0x0202, status t, t.ip)),
     after (start 0x1000 [0x83, 0x6A, 0xFE, 0x10] (pokeW 0x0202 0x0010 (((State.reset.setSeg .ss 0x0010).setReg16 .bp 0x0100).setReg16 .si 0x0004))) (fun t => (Memory.word t.mem 0x0202, status t, t.ip)),
     after (start 0x1000 [0x83, 0x72, 0xFE, 0xFF] (pokeW 0x0202 0x00FF (((State.reset.setSeg .ss 0x0010).setReg16 .bp 0x0100).setReg16 .si 0x0004))) (fun t => (Memory.word t.mem 0x0202, status t, t.ip)),
     after (start 0x1000 [0x83, 0x7A, 0xFE, 0xFB] (pokeW 0x0202 0x0005 (((State.reset.setSeg .ss 0x0010).setReg16 .bp 0x0100).setReg16 .si 0x0004))) (fun t => (Memory.word t.mem 0x0202, status t, t.ip))] =
    [some (0x0004, [1, 0, 0, 0, 0], 0x1004),
     some (0xFF80, [0, 0, 0, 1, 0], 0x1004),
     some (0x0000, [1, 1, 1, 0, 0], 0x1004),
     some (0x0001, [1, 0, 0, 0, 0], 0x1004),
     some (0x1230, [0, 1, 0, 0, 0], 0x1004),
     some (0x0000, [0, 1, 1, 0, 0], 0x1004),
     some (0xFF00, [0, 1, 0, 1, 0], 0x1004),
     some (0x0005, [1, 1, 0, 0, 0], 0x1004)] := by decide

/-! ## One step: the examples of the other families -/

/-- The examples of R302 to R309. -/
theorem test_step_jumps_on_one_flag :
    [after (start 0x0100 [0x70, 0x05] (flagged fun f => { f with OF := true })) (·.ip),
     after (start 0x0100 [0x70, 0x05] State.reset) (·.ip),
     after (start 0x0100 [0x71, 0x10] State.reset) (·.ip),
     after (start 0x0100 [0x71, 0x10] (flagged fun f => { f with OF := true })) (·.ip),
     after (start 0x0100 [0x72, 0xFE] (flagged fun f => { f with CF := true })) (·.ip),
     after (start 0x0100 [0x72, 0xFE] State.reset) (·.ip),
     after (start 0x0100 [0x73, 0x7F] State.reset) (·.ip),
     after (start 0x0100 [0x73, 0x7F] (flagged fun f => { f with CF := true })) (·.ip),
     after (start 0x0100 [0x74, 0x80] (flagged fun f => { f with ZF := true })) (·.ip),
     after (start 0x0100 [0x74, 0x80] State.reset) (·.ip),
     after (start 0x0100 [0x75, 0xFA] State.reset) (·.ip),
     after (start 0x0100 [0x75, 0xFA] (flagged fun f => { f with ZF := true })) (·.ip),
     after (start 0x0100 [0x76, 0x02] (flagged fun f => { f with ZF := true })) (·.ip),
     after (start 0x0100 [0x76, 0x02] State.reset) (·.ip),
     after (start 0x0100 [0x77, 0x20] State.reset) (·.ip),
     after (start 0x0100 [0x77, 0x20] (flagged fun f => { f with CF := true })) (·.ip)] =
    [some 0x0107, some 0x0102, some 0x0112, some 0x0102, some 0x0100, some 0x0102, some 0x0181, some 0x0102, some 0x0082, some 0x0102, some 0x00FC, some 0x0102, some 0x0104, some 0x0102, some 0x0122, some 0x0102] := by decide

/-- The examples of R310 to R317. -/
theorem test_step_jumps_signed :
    [after (start 0x0100 [0x78, 0xF0] (flagged fun f => { f with SF := true })) (·.ip),
     after (start 0x0100 [0x78, 0xF0] State.reset) (·.ip),
     after (start 0x0100 [0x79, 0x08] State.reset) (·.ip),
     after (start 0x0100 [0x79, 0x08] (flagged fun f => { f with SF := true })) (·.ip),
     after (start 0x0100 [0x7A, 0x01] (flagged fun f => { f with PF := true })) (·.ip),
     after (start 0x0100 [0x7A, 0x01] State.reset) (·.ip),
     after (start 0x0100 [0x7B, 0xFC] State.reset) (·.ip),
     after (start 0x0100 [0x7B, 0xFC] (flagged fun f => { f with PF := true })) (·.ip),
     after (start 0x0100 [0x7C, 0x06] (flagged fun f => { f with SF := true })) (·.ip),
     after (start 0x0100 [0x7C, 0x06] (flagged fun f => { f with SF := true, OF := true })) (·.ip),
     after (start 0x0100 [0x7D, 0x7E] State.reset) (·.ip),
     after (start 0x0100 [0x7D, 0x7E] (flagged fun f => { f with OF := true })) (·.ip),
     after (start 0x0100 [0x7E, 0xF8] (flagged fun f => { f with OF := true })) (·.ip),
     after (start 0x0100 [0x7E, 0xF8] State.reset) (·.ip),
     after (start 0x0100 [0x7F, 0x04] (flagged fun f => { f with SF := true, OF := true })) (·.ip),
     after (start 0x0100 [0x7F, 0x04] (flagged fun f => { f with ZF := true })) (·.ip)] =
    [some 0x00F2, some 0x0102, some 0x010A, some 0x0102, some 0x0103, some 0x0102, some 0x00FE, some 0x0102, some 0x0108, some 0x0102, some 0x0180, some 0x0102, some 0x00FA, some 0x0102, some 0x0106, some 0x0102] := by decide

/-- The examples of R250 and R251. -/
theorem test_step_mov_immediate :
    after (start 0x0100 [0xB7, 0x9C] (State.reset.setReg16 .bx 0x1122)) (fun t => (t.reg16 .bx, t.ip)) = some (0x9C22, 0x102) ∧
    after (start 0x0100 [0xB8, 0x42, 0x00] State.reset) (fun t => (t.reg16 .ax, t.ip)) = some (0x0042, 0x103) ∧
    after (start 0x0100 [0xBC, 0xFE, 0xFF] State.reset) (fun t => (t.reg16 .sp, t.ip)) = some (0xFFFE, 0x103) := by decide

/-- The examples of R252 to R255. -/
theorem test_step_mov_rm :
    after (start 0x0100 [0x88, 0x08] (((State.reset.setReg16 .bx 0x0300).setReg16 .si 0x0010).setReg8 .cl 0xAB))
      (fun t => (Memory.byte t.mem 0x0310, t.ip)) = some (0xAB, 0x102) ∧
    after (start 0x0100 [0x89, 0x16, 0x00, 0x04] (State.reset.setReg16 .dx 0xBEEF))
      (fun t => (Memory.byte t.mem 0x0400, Memory.byte t.mem 0x0401, t.ip)) = some (0xEF, 0xBE, 0x104) ∧
    after (start 0x0100 [0x8A, 0x65, 0xFF] (poke 0x0200 0x5A ((State.reset.setReg16 .di 0x0201).setReg16 .ax 0x1111)))
      (fun t => (t.reg16 .ax, t.ip)) = some (0x5A11, 0x103) ∧
    after (start 0x0100 [0x8B, 0xF3] (State.reset.setReg16 .bx 0x1234)) (fun t => (t.reg16 .si, t.ip)) =
      some (0x1234, 0x102) := by decide

/-- The examples of R256 to R259, LES with its destination as its own base among them. -/
theorem test_step_segments_and_far_pointers :
    after (start 0x0100 [0x8C, 0xD0] (State.reset.setSeg .ss 0x9000)) (fun t => (t.reg16 .ax, t.ip)) =
      some (0x9000, 0x102) ∧
    after (start 0x0100 [0x8E, 0xC0] (State.reset.setReg16 .ax 0x42)) (fun t => (t.seg .es, t.ip)) = some (0x42, 0x102) ∧
    after (start 0x0100 [0x8E, 0x1F] (pokeW 0x0500 0x0040 (State.reset.setReg16 .bx 0x0500)))
      (fun t => (t.seg .ds, t.ip)) = some (0x0040, 0x102) ∧
    after (start 0x0100 [0xC4, 0x7F, 0x04] (pokeW 0x0506 0xB800 (pokeW 0x0504 0x1234 (State.reset.setReg16 .bx 0x0500))))
      (fun t => (t.reg16 .di, t.seg .es, t.ip)) = some (0x1234, 0xB800, 0x103) ∧
    after (start 0x0100 [0xC4, 0x1F] (pokeW 0x0702 0x1111 (pokeW 0x0700 0x2222 (State.reset.setReg16 .bx 0x0700))))
      (fun t => (t.reg16 .bx, t.seg .es)) = some (0x2222, 0x1111) ∧
    after (start 0x0100 [0xC5, 0x36, 0x00, 0x06] (pokeW 0x0602 0x0020 (pokeW 0x0600 0x0010 State.reset)))
      (fun t => (t.reg16 .si, t.seg .ds, t.ip)) = some (0x0010, 0x0020, 0x104) := by decide

/-- The examples of R274 and R276 to R279, PUSH SP and the wrap of SP among them. -/
theorem test_step_push :
    after (start 0x0100 [0x53] ((stack 0 0x00FE).setReg16 .bx 0xBEEF))
      (fun t => (t.reg16 .sp, Memory.word t.mem 0x00FC, t.ip)) = some (0x00FC, 0xBEEF, 0x101) ∧
    after (start 0x0100 [0x54] (stack 0 0x00FE)) (fun t => (t.reg16 .sp, Memory.word t.mem 0x00FC)) =
      some (0x00FC, 0x00FE) ∧
    after (start 0x0100 [0x50] ((stack 0x1000 0).setReg16 .ax 0xAAAA))
      (fun t => (t.reg16 .sp, Memory.word t.mem 0x1FFFE)) = some (0xFFFE, 0xAAAA) ∧
    after (start 0x0100 [0x06] ((stack 0 0x00FE).setSeg .es 0x1234))
      (fun t => (t.reg16 .sp, Memory.word t.mem 0x00FC)) = some (0x00FC, 0x1234) ∧
    after (start 0x0100 [0x0E] ((stack 0 0x00FE).setSeg .cs 0x0777))
      (fun t => (t.reg16 .sp, Memory.word t.mem 0x00FC)) = some (0x00FC, 0x0777) ∧
    after (start 0x0100 [0x16] (stack 0 0x00FE)) (fun t => (t.reg16 .sp, Memory.word t.mem 0x00FC)) =
      some (0x00FC, 0x0000) ∧
    after (start 0x0100 [0x1E] ((stack 0 0x00FE).setSeg .ds 0x2000))
      (fun t => (t.reg16 .sp, Memory.word t.mem 0x00FC)) = some (0x00FC, 0x2000) := by decide

/-- The examples of R275 and R280 to R282, POP SP and the wrap of SP among them. -/
theorem test_step_pop :
    after (start 0x0100 [0x5C] (pokeW 0x00FC 0x1234 (stack 0 0x00FC))) (fun t => (t.reg16 .sp, t.ip)) =
      some (0x1234, 0x101) ∧
    after (start 0x0100 [0x58] (pokeW 0xFFFE 0x7777 (stack 0 0xFFFE))) (fun t => (t.reg16 .ax, t.reg16 .sp)) =
      some (0x7777, 0x0000) ∧
    after (start 0x0100 [0x07] (pokeW 0x00FC 0xB800 (stack 0 0x00FC))) (fun t => (t.seg .es, t.reg16 .sp)) =
      some (0xB800, 0x00FE) ∧
    after (start 0x0100 [0x17] (pokeW 0x00FC 0x0030 (stack 0 0x00FC))) (fun t => (t.seg .ss, t.reg16 .sp)) =
      some (0x0030, 0x00FE) ∧
    after (start 0x0100 [0x1F] (pokeW 0x00FC 0x0040 (stack 0 0x00FC))) (fun t => (t.seg .ds, t.reg16 .sp)) =
      some (0x0040, 0x00FE) := by decide

/-- The example of R283. -/
theorem test_step_pusha :
    after (start 0x0100 [0x60] { State.reset with
        gpr := ⟨0x1111, 0x2222, 0x3333, 0x4444, 0x00FE, 0x6666, 0x7777, 0x8888⟩ })
      (fun t => (t.reg16 .sp, (List.range 8).map fun k => Memory.word t.mem (0x00EE + 2 * k))) =
      some (0x00EE, [0x8888, 0x7777, 0x6666, 0x00FE, 0x4444, 0x3333, 0x2222, 0x1111]) := by decide

/-- The second example of R284: SP is restored from its slot. -/
theorem test_step_popa :
    after (start 0x0100 [0x61] (((stack 0 0x00EE).setMem (Memory.setBytes [] 0x00EE
        [0xD1, 0, 0x51, 0, 0xB1, 0, 0, 2, 0xB2, 0, 0xD2, 0, 0xC2, 0, 0xA2, 0])))) (·.gpr) =
      some ⟨0x00A2, 0x00C2, 0x00D2, 0x00B2, 0x0200, 0x00B1, 0x0051, 0x00D1⟩ := by decide

/-- The examples of R286 and R287. -/
theorem test_step_return :
    after (start 0x0100 [0xC3] (pokeW 0x00FC 0x0180 (stack 0 0x00FC))) (fun t => (t.ip, t.reg16 .sp)) =
      some (0x0180, 0x00FE) ∧
    after (start 0x0100 [0xC2, 0x04, 0x00] (pokeW 0x00F8 0x0123 (stack 0 0x00F8))) (fun t => (t.ip, t.reg16 .sp)) =
      some (0x0123, 0x00FE) := by decide

/-- The example of R330: an unregistered vector is fatal; a registered one enters its service with `ip` unchanged. -/
theorem test_step_int :
    stops (start 0x0104 [0xCD, 0x10] State.reset) = some (.unregisteredVector 0x10 0x0104) ∧
    after (start 0x0104 [0xCD, 0x21] { State.reset with intTable := [(0x21, .callback 0)] })
      (fun t => (t.ip, t.frames)) = some (0x0104, [.service 0x0104 (.callback 0), .run 65536]) := by decide

/-- The source's scenario of R124: `B4 04` over the range [0, 1) gives AH = 4 and completes. -/
theorem test_execute_one_instruction_range :
    (execute 2 0 1 (State.reset.setMem (Memory.setBytes [] 0 [0xB4, 0x04]))).map (fun (r, t) => (r, t.reg8 .ah, t.ip)) =
      some (.completed, 0x04, 2) := by decide

/-! ## Faults -/

/-- Opcode, ModRM sub-mode, operand and fetch faults, with what they record (R341, R342, R344, R349). -/
theorem test_faults :
    stops (start 0x0100 [0x90] State.reset) = some (.unimplementedOpcode 0x90 0x100) ∧
    stops (start 0x0100 [0x8E, 0xE0] State.reset) = some (.unimplementedModRM 0x8E 0xE0 0x100) ∧
    stops (start 0x0100 [0x8A, 0x06, 0x10, 0x00] (data 0xFFFF)) = some (.addressOutOfRange 0x100000) ∧
    stops (start 0x0100 [0x39, 0x06, 0x0F, 0x00] (data 0xFFFF)) = some (.addressOutOfRange 0xFFFFF) ∧
    stops { State.reset with ip := -1, frames := [.run 0] } = some (.addressOutOfRange (-1)) ∧
    stops { State.reset with ip := 0xFFFFF, frames := [.run 0x100000], mem := [(0xFFFFF, 0xB0)] } =
      some (.addressOutOfRange 0x100000) := by decide

/-! ## Witnesses: the hypotheses of the statements can be met -/

/-- A state that runs the given bytes at `ip`, bound above it. -/
def running (ip : Nat) (bytes : List Byte) : State :=
  { State.reset with ip := ip, frames := [.run (ip + 1)], mem := Memory.setBytes [] ip bytes }

/-- A callback runs above a run, and the host's next call is `c`. -/
def inCallback (c : HostCall) : State :=
  { State.reset with ip := 0x100, frames := [.service 0x100 (.callback 0), .run 65536], host := [c] }

/-- R350: after a fatal of an instruction, of a callback's return and of `GetInDs` between runs, the host's later `Execute`
starts a run over the preserved state, here `B4 04` over the range [0, 1); the second of these keeps DS. -/
theorem test_execute_after_fatal :
    let base := State.reset.setMem (Memory.setBytes [] 0 [0xB4, 0x04])
    (session 4 { start 0x0100 [0x90] base with host := [.execute 0 1] }).map (fun t => (t.reg8 .ah, t.result, t.ip)) =
      some (0x04, some .completed, 2) ∧
    (session 4 { base.setSeg .ds 0x1234 with
        ip := 0x100
        frames := [.service 0x100 (.callback 0), .run 65536]
        host := [.ret (.fatal (.unimplementedService 1)), .execute 0 1] }).map
      (fun t => (t.reg8 .ah, t.seg .ds, t.result)) = some (0x04, 0x1234, some .completed) ∧
    (session 4 { base.setSeg .ds 0xFFFF with host := [.getInDs 0x0010, .execute 0 1] }).map
      (fun t => (t.reg8 .ah, t.result, t.host)) = some (0x04, some .completed, []) := by decide

/-- The result of a run that a fatal ended, and of none between runs (R351, log 14). -/
theorem test_fatal_result :
    (execute 1 0x100 0x200 (State.reset.setMem (Memory.setBytes [] 0x100 [0x90]))).map (fun (r, t) => (r, t.result, t.ip)) =
      some (.fatal (.unimplementedOpcode 0x90 0x100), some (.fatal (.unimplementedOpcode 0x90 0x100)), 0x100) ∧
    (session 1 { data 0xFFFF with host := [.getInDs 0x0010] }).map (·.result) = some none := by decide

/-- A nested run of a callback that has reached its bound. -/
def nestedAtBound : State :=
  { State.reset with ip := 0x200, frames := [.run 0x200, .service 0x100 (.callback 0), .run 65536] }

/-- A run about to fetch an unimplemented opcode, of a host that calls `Execute(0, 1)` next; `B4 04` stands at 0. -/
def fatalThenExecute : State :=
  { start 0x0100 [0x90] (State.reset.setMem (Memory.setBytes [] 0 [0xB4, 0x04])) with host := [.execute 0 1] }

/-- Reset with INT 21h bytes at 0x100, the platform service registered and AX set. -/
def atInt21 (ax : Word) : State :=
  { start 0x0100 [0xCD, 0x21] (State.reset.setReg16 .ax ax) with intTable := [(0x21, .dos21)] }

theorem running_meets (ip : Nat) (bytes : List Byte) : Running (running ip bytes) :=
  ⟨(ip : Int) + 1, [], rfl, by show (ip : Int) < ip + 1; omega⟩

/-- Bytes placed at `ip` stand there, for one or two bytes of a small state. -/
theorem bytesAtIp_two {s : State} {a b : Byte} (h : 0 ≤ s.ip) (h' : s.ip.toNat + 2 ≤ Config.memSize)
    (ha : Memory.byte s.mem s.ip.toNat = a) (hb : Memory.byte s.mem (s.ip.toNat + 1) = b) : BytesAtIp s [a, b] :=
  ⟨h, h', fun k => match k with
    | 0 => .inr (by simp [ha])
    | 1 => .inr (by simp [hb])
    | _ + 2 => .inl rfl⟩

theorem bytesAtIp_one {s : State} {a : Byte} (h : 0 ≤ s.ip) (h' : s.ip.toNat + 1 ≤ Config.memSize)
    (ha : Memory.byte s.mem s.ip.toNat = a) : BytesAtIp s [a] :=
  ⟨h, h', fun k => match k with
    | 0 => .inr (by simp [ha])
    | _ + 1 => .inl rfl⟩

theorem witness_DecodeOfEncodeIsIdentity : Instr.wellFormed (.movRm16R16 (.mem (.direct 0xFFFF)) .di) = true := by decide

theorem witness_EncodeOfDecodeIsIdentity : decode [0xC3] = .ok .ret := by decide

theorem witness_RegisterDirectOperand : (0xC0 : Byte).extractLsb' 6 2 = 3#2 ∧ (0xFF : Byte).extractLsb' 6 2 = 3#2 := by decide

/-- Each clause of the table: 06h, 00h, 40h, BFh. -/
theorem witness_EffectiveAddressTable :
    (0x06 : Byte).extractLsb' 6 2 = 0#2 ∧ (0x06 : Byte).extractLsb' 0 3 = 6#3 ∧ (0x00 : Byte).extractLsb' 6 2 = 0#2 ∧
    (0x00 : Byte).extractLsb' 0 3 ≠ 6#3 ∧ (0x40 : Byte).extractLsb' 6 2 = 1#2 ∧ (0xBF : Byte).extractLsb' 6 2 = 2#2 := by
  decide

theorem witness_StepRunsTheDecodedInstruction :
    Running (running 0x100 [0xC3]) ∧ decode (running 0x100 [0xC3]).fetchWindow = .ok .ret :=
  ⟨running_meets _ _, by decide⟩

/-- An instruction in the last byte of memory. -/
theorem witness_StepRunsTheInstructionInMemory :
    Running (running 0xFFFFF [0xC3]) ∧ Instr.wellFormed .ret = true ∧ BytesAtIp (running 0xFFFFF [0xC3]) (encode .ret) :=
  ⟨running_meets _ _, rfl, bytesAtIp_one (by decide) (by decide) (by decide)⟩

/-- An outermost and a nested run at its bound; a fatal of an instruction with a later `Execute` of the host, and one that
a callback returns. -/
theorem witness_BoundReachedEndsTheRun :
    (start 65536 [] State.reset).frames = [.run 65536] ∧ (65536 : Int) ≤ (start 65536 [] State.reset).ip ∧
    State.reset.frames = [] ∧ nestedAtBound.frames = .run 0x200 :: .service 0x100 (.callback 0) :: [.run 65536] ∧
    (0x200 : Int) ≤ nestedAtBound.ip ∧ stops fatalThenExecute = some (.unimplementedOpcode 0x90 0x100) ∧
    fatalThenExecute.frames ≠ [] ∧ (fatalThenExecute.endFatal (.unimplementedOpcode 0x90 0x100)).host = [.execute 0 1] ∧
    stops (inCallback (.ret (.fatal (.unimplementedService 1)))) = some (.unimplementedService 1) ∧
    (inCallback (.ret (.fatal (.unimplementedService 1)))).hostTurn = true ∧ fatalThenExecute.hostTurn = false ∧
    (execute 1 0x100 0x101 { fatalThenExecute with frames := [] }).map (·.1) = some (.fatal (.unimplementedOpcode 0x90 0x100)) := by decide

/-- A window that lacks the field at offset 1 (test vectors F14 and I10), and one that lacks the last byte of the longest
instruction, whose immediate begins at offset 4. -/
theorem witness_FetchOutsideMemoryFaults_fields :
    decode (running 0xFFFFE [0xB8, 0x34]).fetchWindow = .error (.missing 1) ∧ fieldStart (fieldsOf (.movR16Imm16 .ax 0x1234)) 2 = 1 ∧
    decode (running 0xFFFFF [0xCD]).fetchWindow = .error (.missing 1) ∧ fieldStart (fieldsOf (.int 0x21)) 1 = 1 ∧
    Instr.wellFormed (.addRm16Imm16 (.mem (.disp16 .bx 0x0010)) 1) = true ∧
    (encode (.addRm16Imm16 (.mem (.disp16 .bx 0x0010)) 1)).length = 6 ∧
    fieldStart (fieldsOf (.addRm16Imm16 (.mem (.disp16 .bx 0x0010)) 1)) 5 = 4 ∧
    (∀ k, k < 5 → (encode (.addRm16Imm16 (.mem (.disp16 .bx 0x0010)) 1))[k]? =
      some (Memory.byte (running 0xFFFFB [0x81, 0x87, 0x10, 0x00, 0x01]).mem (0xFFFFB + k))) ∧
    0xFFFFB + 5 = Config.memSize := by decide

/-- Both sides of memory, and its last byte with the first and the last jump opcode. -/
theorem witness_FetchOutsideMemoryFaults :
    Running { running 0 [] with ip := -1 } ∧ Running (running 0x100000 []) ∧ Running (running 0xFFFFF [0x70]) ∧
    Running (running 0xFFFFF [0x7F]) ∧ (Memory.byte (running 0xFFFFF [0x70]).mem 0xFFFFF).toNat = 0x70 ∧
    (Memory.byte (running 0xFFFFF [0x7F]).mem 0xFFFFF).toNat = 0x7F :=
  ⟨⟨0 + 1, [], rfl, by decide⟩, running_meets _ _, running_meets _ _, running_meets _ _, by decide, by decide⟩

theorem witness_UnimplementedOpcodeFaults :
    Running (running 0xFFFFF [0x0F]) ∧ implementedOpcode (Memory.byte (running 0xFFFFF [0x0F]).mem 0xFFFFF) = false ∧
    implementedOpcode 0x3D = true ∧ implementedOpcode 0x3E = false := ⟨running_meets _ _, by decide, by decide, by decide⟩

/-- reg 4 and reg 7 of 8Ch and 8Eh, mod 11 of C4h and C5h, in the last two bytes of memory. -/
theorem witness_UnimplementedModRMFaults :
    Running (running 0xFFFFE [0x8C, 0x20]) ∧ BytesAtIp (running 0xFFFFE [0x8C, 0x20]) [0x8C, 0x20] ∧
    4 ≤ ((0x20 : Byte).extractLsb' 3 3).toNat ∧ BytesAtIp (running 0xFFFFE [0x8E, 0x3F]) [0x8E, 0x3F] ∧
    4 ≤ ((0x3F : Byte).extractLsb' 3 3).toNat ∧ BytesAtIp (running 0xFFFFE [0xC4, 0xC0]) [0xC4, 0xC0] ∧
    BytesAtIp (running 0xFFFFE [0xC5, 0xFF]) [0xC5, 0xFF] ∧ (0xC0 : Byte).extractLsb' 6 2 = 3#2 :=
  ⟨running_meets _ _, bytesAtIp_two (by decide) (by decide) (by decide) (by decide), by decide,
    bytesAtIp_two (by decide) (by decide) (by decide) (by decide), by decide,
    bytesAtIp_two (by decide) (by decide) (by decide) (by decide),
    bytesAtIp_two (by decide) (by decide) (by decide) (by decide), by decide⟩

/-- A run that meets the invariant and goes on to another state. -/
theorem witness_StepKeepsTheInvariant :
    (start 0x0100 [0x50] (stack 0 0x00FE)).Inv ∧ ∃ t, step (start 0x0100 [0x50] (stack 0 0x00FE)) = .next t :=
  ⟨⟨by decide, by decide, by decide, by decide⟩, _, rfl⟩

theorem witness_UnusedFlagsAndVectorsAreNotWritten :
    (start 0x0100 [0x04, 0x01] State.reset).frames ≠ [] ∧ ∃ t, step (start 0x0100 [0x04, 0x01] State.reset) = .next t :=
  ⟨by decide, _, rfl⟩

theorem witness_ServiceActsKeepMemoryAndFlags :
    (inCallback (.emit 0x41)).frames = [.service 0x100 (.callback 0), .run 65536] ∧
    ∃ t, step (inCallback (.emit 0x41)) = .next t := ⟨rfl, _, rfl⟩

theorem witness_SequentialInstructionsAdvanceIp :
    sequential (.addRm16SImm8 (.mem (.direct 0)) 1) = true ∧
    completes (.addRm16SImm8 (.mem (.direct 0)) 1) State.reset = true ∧ sequential .popa = true ∧
    completes .popa State.reset = true := by decide

/-- A word that begins in the last byte of memory, and an unregistered vector. -/
theorem witness_InstructionsStopOnlyForAddressOrVector :
    exec .ret (stack 0xFFFF 0x000F) = .fault (.addressOutOfRange 0xFFFFF) ∧
    exec (.int 0x10) State.reset = .fault (.unregisteredVector 0x10 0) := ⟨rfl, rfl⟩

theorem witness_CsHasNoOtherEffect :
    Instr.ret ≠ .pushCs ∧ (∀ dst, Instr.ret ≠ .movRm16Sreg dst .cs) ∧ ∀ src, Instr.ret ≠ .movSregRm16 .cs src :=
  ⟨by decide, fun _ h => Instr.noConfusion h, fun _ h => Instr.noConfusion h⟩

/-- `ByteViewRead`, `ByteViewWrite`, `WordRegisterWrite`: both clauses at both ends of their range. -/
theorem witness_ByteViews : (0#3).toNat < 4 ∧ (3#3).toNat < 4 ∧ 4 ≤ (4#3).toNat ∧ 4 ≤ (7#3).toNat := by decide

theorem witness_AccessRange :
    Config.memSize < Config.memSize + 1 ∧ Config.memSize < (Config.memSize - 1) + 2 := by decide

theorem witness_LittleEndianWrite :
    Memory.wf [(0xFFFFF, 0x12)] = true ∧ 0xFFFFF + 1 ≤ Config.memSize ∧ 0xFFFFE + 2 ≤ Config.memSize := by decide

/-- `AdditionResultAndFlags`, `SubtractionResultAndFlags`, `LogicResultAndFlags`, `ConditionsAfterCompare`: the widths and
operations of the premises. -/
theorem witness_AluFunctions :
    ((8 : Nat) = 8 ∨ 8 = 16) ∧ ((16 : Nat) = 8 ∨ 16 = 16) ∧ (AluOp.adc = .add ∨ AluOp.adc = .adc) ∧
    (AluOp.cmp = .sub ∨ AluOp.cmp = .sbb ∨ AluOp.cmp = .cmp) ∧ (AluOp.xor = .and ∨ AluOp.xor = .or ∨ AluOp.xor = .xor) := by
  decide

/-- `AluRegRmCompletes`, `AluGroupCompletes`, `MovRegRmCompletes`, `FarPointerLoadCompletes`: the last byte, the last word
and the last doubleword of memory as operands; a register fits always. -/
theorem witness_operand_fits :
    fits8 (data 0xFFFF) (.mem (.direct 0x000F)) ∧ fits16 (data 0xFFFF) (.mem (.direct 0x000E)) ∧
    (data 0xFFFF).operandAddr (.direct 0x000C) + 4 ≤ Config.memSize ∧ fits8 State.reset (.reg .bh) ∧
    fits16 State.reset (.reg .di) :=
  ⟨show (data 0xFFFF).operandAddr (.direct 0x000F) + 1 ≤ Config.memSize by decide,
    show (data 0xFFFF).operandAddr (.direct 0x000E) + 2 ≤ Config.memSize by decide, by decide, trivial, trivial⟩

/-- One byte further each. -/
theorem witness_OperandOutsideMemoryFaults :
    Config.memSize < (data 0xFFFF).operandAddr (.direct 0x0010) + 1 ∧
    AluIntoMem8 .cmp (.direct 0x0010) (.cmpRm8Imm8 (.mem (.direct 0x0010)) 0) ∧
    Config.memSize < (data 0xFFFF).operandAddr (.direct 0x000F) + 2 ∧
    AluIntoMem16 .add (.direct 0x000F) (.addRm16R16 (.mem (.direct 0x000F)) .ax) ∧
    Config.memSize < (data 0xFFFF).operandAddr (.direct 0x000D) + 4 :=
  ⟨by decide, .inr ⟨0, rfl⟩, by decide, .inl ⟨.ax, rfl⟩, by decide⟩

/-- Every form of the register-destination frame, completing. -/
theorem witness_AluRegisterFrame :
    AluInto8 .add .bl (.addRm8R8 (.reg .bl) .al) ∧ completes (.addRm8R8 (.reg .bl) .al) State.reset = true ∧
    AluInto8 .cmp .ah (.cmpR8Rm8 .ah (.mem (.direct 0))) ∧
    completes (.cmpR8Rm8 .ah (.mem (.direct 0))) State.reset = true ∧ AluInto8 .sbb .al (.sbbAlImm8 1) ∧
    completes (.sbbAlImm8 1) State.reset = true ∧ AluInto16 .xor .ax (.xorAxImm16 1) ∧
    completes (.xorAxImm16 1) State.reset = true ∧ AluInto16 .or .sp (.orRm16SImm8 (.reg .sp) 1) ∧
    completes (.orRm16SImm8 (.reg .sp) 1) State.reset = true :=
  ⟨.inl ⟨.al, rfl⟩, by decide, .inr (.inl ⟨.mem (.direct 0), rfl⟩), by decide, .inr (.inr (.inl ⟨1, rfl, rfl⟩)), by decide,
    .inr (.inr (.inl ⟨1, rfl, rfl⟩)), by decide, .inr (.inr (.inr (.inr ⟨1, rfl⟩))), by decide⟩

theorem witness_AluMemoryFrame :
    AluIntoMem8 .add (.direct 0) (.addRm8R8 (.mem (.direct 0)) .al) ∧
    completes (.addRm8R8 (.mem (.direct 0)) .al) State.reset = true ∧
    AluIntoMem16 .cmp (.direct 0) (.cmpRm16Imm16 (.mem (.direct 0)) 1) ∧
    completes (.cmpRm16Imm16 (.mem (.direct 0)) 1) State.reset = true :=
  ⟨.inl ⟨.al, rfl⟩, by decide, .inr (.inl ⟨1, rfl⟩), by decide⟩

theorem witness_MoveRegisterFrame :
    MovInto8 .ch (.movR8Imm8 .ch 1) ∧ completes (.movR8Imm8 .ch 1) State.reset = true ∧
    MovInto16 .di (.movRm16Sreg (.reg .di) .cs) ∧ completes (.movRm16Sreg (.reg .di) .cs) State.reset = true ∧
    completes (.movSregRm16 .cs (.reg .ax)) State.reset = true ∧ completes (.les .bx (.base .bx)) State.reset = true ∧
    completes (.lds .bx (.base .bx)) State.reset = true :=
  ⟨.inr (.inr ⟨1, rfl⟩), by decide, .inr (.inr (.inr ⟨.cs, rfl⟩)), by decide, by decide, by decide, by decide⟩

theorem witness_MoveMemoryFrame :
    completes (.movRm8R8 (.mem (.direct 0)) .al) State.reset = true ∧
    completes (.movRm16R16 (.mem (.direct 0)) .ax) State.reset = true ∧
    completes (.movRm16Sreg (.mem (.direct 0)) .cs) State.reset = true := by decide

/-- `StackEngine`, `PushCompletes`, `PopCompletes`, `ReturnCompletes`, `StackOutsideMemoryFaults`: the last word of memory,
pushed to and popped from, and one byte further. -/
theorem witness_one_stack_word :
    slotBelow (stack 0xFFFF 0x0010) 1 + 2 ≤ Config.memSize ∧ slotAbove (stack 0xFFFF 0x000E) 0 + 2 ≤ Config.memSize ∧
    Config.memSize < slotBelow (stack 0xFFFF 0x0011) 1 + 2 ∧ Config.memSize < slotAbove (stack 0xFFFF 0x000F) 0 + 2 ∧
    popSeg .es = some .popEs := by decide

theorem witness_PushaCompletes : ∀ k, 1 ≤ k → k ≤ 8 → slotBelow (stack 0xFFFF 0x0010) k + 2 ≤ Config.memSize := by
  intro k h h'
  interval_cases k <;> decide

theorem witness_PopaCompletes : ∀ k, k < 8 → slotAbove (stack 0xFFFF 0x0000) k + 2 ≤ Config.memSize := by
  intro k h
  interval_cases k <;> decide

/-- The first, a middle and the last word of PUSHA and POPA as the one outside memory. -/
theorem witness_StackOutsideMemoryFaults :
    Config.memSize < slotBelow (stack 0xFFFF 0x0011) 1 + 2 ∧
    (slotBelow (stack 0xFFFF 0x0002) 1 + 2 ≤ Config.memSize ∧ Config.memSize < slotBelow (stack 0xFFFF 0x0002) 2 + 2) ∧
    (∀ j, 1 ≤ j → j < 8 → slotBelow (stack 0xFFFF 0x000E) j + 2 ≤ Config.memSize) ∧
    Config.memSize < slotBelow (stack 0xFFFF 0x000E) 8 + 2 ∧
    (∀ j, j < 7 → slotAbove (stack 0xFFFF 0x0002) j + 2 ≤ Config.memSize) ∧
    Config.memSize < slotAbove (stack 0xFFFF 0x0002) 7 + 2 ∧ Config.memSize < slotAbove (stack 0xFFFF 0x000F) 0 + 2 := by
  refine ⟨by decide, by decide, ?_, by decide, ?_, by decide, by decide⟩ <;>
    intro j <;> intros <;> interval_cases j <;> decide

/-- `PushPopRestores`, `PushaPopaRestores`, `PushFrame`, `PopFrame`. -/
theorem witness_push_then_pop :
    Memory.wf (stack 0 0x00FE).mem = true ∧ completes (.pushR16 .sp) (stack 0 0x00FE) = true ∧
    completes .pusha (stack 0 0x00FE) = true ∧ completes .pushCs (stack 0 0x00FE) = true ∧
    completes (.popR16 .sp) (stack 0 0x00FE) = true ∧ completes .popSs (stack 0 0x00FE) = true ∧
    completes .popa (stack 0 0x00FE) = true ∧ completes .ret (stack 0 0x00FE) = true ∧
    completes (.retImm16 2) (stack 0 0x00FE) = true := by decide

theorem witness_IntCallsTheRegisteredService :
    IntTable.lookup (atInt21 0).intTable 0x21 = some .dos21 ∧ IntTable.lookup (atInt21 0).intTable 0x20 = none := by decide

theorem witness_CallbackReturn :
    (inCallback (.ret .resume)).frames = [.service 0x100 (.callback 0), .run 65536] ∧
    (inCallback (.ret .resume)).host = [.ret .resume] ∧ (inCallback (.ret .exit)).host = [.ret .exit] ∧
    (inCallback (.ret (.fatal (.unimplementedService 1)))).host = [.ret (.fatal (.unimplementedService 1))] := by decide

theorem witness_IntInvokesOnceAndAdvances :
    let s := { start 0x0100 [0xCD, 0x05] State.reset with intTable := [(0x05, .callback 3)], host := [.ret .resume] }
    Running s ∧ BytesAtIp s [0xCD, 0x05] ∧ IntTable.lookup s.intTable 0x05 = some (.callback 3) ∧
      s.host = [.ret .resume] :=
  ⟨⟨65536, [], rfl, by decide⟩, bytesAtIp_two (by decide) (by decide) (by decide) (by decide), by decide, rfl⟩

/-- `HostRegisterAccessors`: the last byte inside memory and the first outside as the operand of `GetInDs`. -/
theorem witness_GetInDs :
    phys ((data 0xFFFF).seg .ds) 0x000F + 1 ≤ Config.memSize ∧ Config.memSize < phys ((data 0xFFFF).seg .ds) 0x0010 + 1 ∧
    HostActs { data 0xFFFF with host := [.getInDs 0x0010] } := ⟨by decide, by decide, .inl rfl⟩

/-- `ExecuteChangesOnlyIp`, `HostRegisterAccessors`. -/
theorem witness_host_calls :
    HostActs { State.reset with host := [.execute 0 1] } ∧ HostActs (inCallback (.execute 0 1)) ∧
    HostActs (inCallback (.setReg8 .ah 1)) ∧ HostActs (inCallback (.getSeg .ds)) :=
  ⟨.inl rfl, .inr ⟨_, _, _, rfl⟩, .inr ⟨_, _, _, rfl⟩, .inr ⟨_, _, _, rfl⟩⟩

theorem witness_SetInterruptHandlerSetsOneVector :
    { State.reset with host := [.setInterruptHandler 0xFF .dos21] }.frames = [] ∧
    (inCallback (.setInterruptHandler 0xFF .dos21)).frames = [.service 0x100 (.callback 0), .run 65536] := by decide

/-- The empty image and the largest one. -/
theorem witness_ComLaunch :
    0x100 + ([] : List Byte).length ≤ Config.memSize ∧ 0x100 + (List.replicate 1048320 (0 : Byte)).length ≤ Config.memSize :=
  ⟨by decide, by rw [List.length_replicate]⟩

theorem witness_Int21Terminate :
    Running (atInt21 0x4C00) ∧ BytesAtIp (atInt21 0x4C00) [0xCD, 0x21] ∧
    IntTable.lookup (atInt21 0x4C00).intTable 0x21 = some .dos21 ∧ (atInt21 0x4C00).reg8 .ah = 0x4C ∧
    (atInt21 0x4D00).reg8 .ah ≠ 0x4C ∧ (atInt21 0x4D00).reg8 .ah ≠ 0x09 :=
  ⟨⟨65536, [], rfl, by decide⟩, bytesAtIp_two (by decide) (by decide) (by decide) (by decide), by decide, by decide,
    by decide, by decide⟩

/-- A string whose second byte stands at offset 0, after the wrap, and a string pointer past the end of memory. -/
theorem witness_Int21WritesTheString :
    let s := poke 0x10FFFF 0x24 (poke 0x0000 0x24 (poke 0xFFFF 0x41 ((atInt21 0x0900).setReg16 .dx 0xFFFF)))
    Running s ∧ BytesAtIp s [0xCD, 0x21] ∧ IntTable.lookup s.intTable 0x21 = some .dos21 ∧ s.reg8 .ah = 0x09 ∧
      (0x24 : Byte) ∉ [(0x41 : Byte)] ∧
      (∀ k, k ≤ 1 → phys (s.seg .ds) (s.reg16 .dx + BitVec.ofNat 16 k) + 1 ≤ Config.memSize ∧
        some (Memory.byte s.mem (phys (s.seg .ds) (s.reg16 .dx + BitVec.ofNat 16 k))) = ([0x41] ++ [0x24])[k]?) ∧
      Config.memSize < phys 0xFFFF 0x0010 + 1 :=
  ⟨⟨65536, [], rfl, by decide⟩, bytesAtIp_two (by decide) (by decide) (by decide) (by decide), by decide, by decide,
    by decide, by intro k h; interval_cases k <;> decide, by decide⟩

end Sys2Proof.Tests
end

namespace Sys2Proof.Proofs

open Sys2Proof.Machine Sys2Proof.Statements

/-! ## Scope: the step of a run -/

/-- Settles O6: a run below its bound steps by `runInstruction` (`step_run`), which executes what the fetch window decodes
to (`runInstruction_of_decode`). -/
theorem stepRunsTheDecodedInstruction : Obligations.StepRunsTheDecodedInstruction := by
  rintro s i ⟨ipEnd, frames, hframes, hip⟩ hdecode
  calc step s
    _ = runInstruction s := step_run hframes hip
    _ = exec i s := runInstruction_of_decode hdecode

end Sys2Proof.Proofs

namespace Sys2Proof.Proofs

open Sys2Proof.Machine Sys2Proof.Statements

/-! ## Scope: the instructions by family

The statements name families (`aluRm8R8 op`, `jcc c`, `pushSeg sr`); the instruction type has one constructor for each
row of the opcode table. A proof about every instruction splits by family. -/

/-- Case split of an instruction by the families of the statements. -/
theorem byFamily {motive : Instr → Prop}
    (aluRm8R8 : ∀ (op : AluOp) (dst : RM Reg8) (src : Reg8), motive (aluRm8R8 op dst src))
    (aluRm16R16 : ∀ (op : AluOp) (dst : RM Reg16) (src : Reg16), motive (aluRm16R16 op dst src))
    (aluR8Rm8 : ∀ (op : AluOp) (dst : Reg8) (src : RM Reg8), motive (aluR8Rm8 op dst src))
    (aluR16Rm16 : ∀ (op : AluOp) (dst : Reg16) (src : RM Reg16), motive (aluR16Rm16 op dst src))
    (aluAlImm8 : ∀ (op : AluOp) (imm : Byte), motive (aluAlImm8 op imm))
    (aluAxImm16 : ∀ (op : AluOp) (imm : Word), motive (aluAxImm16 op imm))
    (aluRm8Imm8 : ∀ (op : AluOp) (dst : RM Reg8) (imm : Byte), motive (aluRm8Imm8 op dst imm))
    (aluRm16Imm16 : ∀ (op : AluOp) (dst : RM Reg16) (imm : Word), motive (aluRm16Imm16 op dst imm))
    (aluRm16SImm8 : ∀ (op : AluOp) (dst : RM Reg16) (imm : Byte), motive (aluRm16SImm8 op dst imm))
    (movRm8R8 : ∀ (dst : RM Reg8) (src : Reg8), motive (.movRm8R8 dst src))
    (movRm16R16 : ∀ (dst : RM Reg16) (src : Reg16), motive (.movRm16R16 dst src))
    (movR8Rm8 : ∀ (dst : Reg8) (src : RM Reg8), motive (.movR8Rm8 dst src))
    (movR16Rm16 : ∀ (dst : Reg16) (src : RM Reg16), motive (.movR16Rm16 dst src))
    (movRm16Sreg : ∀ (dst : RM Reg16) (src : SReg), motive (.movRm16Sreg dst src))
    (movSregRm16 : ∀ (dst : SReg) (src : RM Reg16), motive (.movSregRm16 dst src))
    (movR8Imm8 : ∀ (dst : Reg8) (imm : Byte), motive (.movR8Imm8 dst imm))
    (movR16Imm16 : ∀ (dst : Reg16) (imm : Word), motive (.movR16Imm16 dst imm))
    (les : ∀ (dst : Reg16) (src : MemForm), motive (.les dst src))
    (lds : ∀ (dst : Reg16) (src : MemForm), motive (.lds dst src))
    (pushR16 : ∀ (src : Reg16), motive (.pushR16 src))
    (popR16 : ∀ (dst : Reg16), motive (.popR16 dst))
    (pusha : motive .pusha)
    (popa : motive .popa)
    (ret : motive .ret)
    (retImm16 : ∀ (imm : Word), motive (.retImm16 imm))
    (int : ∀ (vector : Byte), motive (.int vector))
    (pushSeg : ∀ sr : SReg, motive (pushSeg sr))
    (popSeg : ∀ (sr : SReg) (i : Instr), popSeg sr = some i → motive i)
    (jcc : ∀ (c : Cond) (disp : Byte), motive (jcc c disp))
    (i : Instr) : motive i := by
  cases i with
  | addRm8R8 dst src => exact aluRm8R8 .add dst src
  | orRm8R8 dst src => exact aluRm8R8 .or dst src
  | adcRm8R8 dst src => exact aluRm8R8 .adc dst src
  | sbbRm8R8 dst src => exact aluRm8R8 .sbb dst src
  | andRm8R8 dst src => exact aluRm8R8 .and dst src
  | subRm8R8 dst src => exact aluRm8R8 .sub dst src
  | xorRm8R8 dst src => exact aluRm8R8 .xor dst src
  | cmpRm8R8 dst src => exact aluRm8R8 .cmp dst src
  | addRm16R16 dst src => exact aluRm16R16 .add dst src
  | orRm16R16 dst src => exact aluRm16R16 .or dst src
  | adcRm16R16 dst src => exact aluRm16R16 .adc dst src
  | sbbRm16R16 dst src => exact aluRm16R16 .sbb dst src
  | andRm16R16 dst src => exact aluRm16R16 .and dst src
  | subRm16R16 dst src => exact aluRm16R16 .sub dst src
  | xorRm16R16 dst src => exact aluRm16R16 .xor dst src
  | cmpRm16R16 dst src => exact aluRm16R16 .cmp dst src
  | addR8Rm8 dst src => exact aluR8Rm8 .add dst src
  | orR8Rm8 dst src => exact aluR8Rm8 .or dst src
  | adcR8Rm8 dst src => exact aluR8Rm8 .adc dst src
  | sbbR8Rm8 dst src => exact aluR8Rm8 .sbb dst src
  | andR8Rm8 dst src => exact aluR8Rm8 .and dst src
  | subR8Rm8 dst src => exact aluR8Rm8 .sub dst src
  | xorR8Rm8 dst src => exact aluR8Rm8 .xor dst src
  | cmpR8Rm8 dst src => exact aluR8Rm8 .cmp dst src
  | addR16Rm16 dst src => exact aluR16Rm16 .add dst src
  | orR16Rm16 dst src => exact aluR16Rm16 .or dst src
  | adcR16Rm16 dst src => exact aluR16Rm16 .adc dst src
  | sbbR16Rm16 dst src => exact aluR16Rm16 .sbb dst src
  | andR16Rm16 dst src => exact aluR16Rm16 .and dst src
  | subR16Rm16 dst src => exact aluR16Rm16 .sub dst src
  | xorR16Rm16 dst src => exact aluR16Rm16 .xor dst src
  | cmpR16Rm16 dst src => exact aluR16Rm16 .cmp dst src
  | addAlImm8 imm => exact aluAlImm8 .add imm
  | orAlImm8 imm => exact aluAlImm8 .or imm
  | adcAlImm8 imm => exact aluAlImm8 .adc imm
  | sbbAlImm8 imm => exact aluAlImm8 .sbb imm
  | andAlImm8 imm => exact aluAlImm8 .and imm
  | subAlImm8 imm => exact aluAlImm8 .sub imm
  | xorAlImm8 imm => exact aluAlImm8 .xor imm
  | cmpAlImm8 imm => exact aluAlImm8 .cmp imm
  | addAxImm16 imm => exact aluAxImm16 .add imm
  | orAxImm16 imm => exact aluAxImm16 .or imm
  | adcAxImm16 imm => exact aluAxImm16 .adc imm
  | sbbAxImm16 imm => exact aluAxImm16 .sbb imm
  | andAxImm16 imm => exact aluAxImm16 .and imm
  | subAxImm16 imm => exact aluAxImm16 .sub imm
  | xorAxImm16 imm => exact aluAxImm16 .xor imm
  | cmpAxImm16 imm => exact aluAxImm16 .cmp imm
  | addRm8Imm8 dst imm => exact aluRm8Imm8 .add dst imm
  | orRm8Imm8 dst imm => exact aluRm8Imm8 .or dst imm
  | adcRm8Imm8 dst imm => exact aluRm8Imm8 .adc dst imm
  | sbbRm8Imm8 dst imm => exact aluRm8Imm8 .sbb dst imm
  | andRm8Imm8 dst imm => exact aluRm8Imm8 .and dst imm
  | subRm8Imm8 dst imm => exact aluRm8Imm8 .sub dst imm
  | xorRm8Imm8 dst imm => exact aluRm8Imm8 .xor dst imm
  | cmpRm8Imm8 dst imm => exact aluRm8Imm8 .cmp dst imm
  | addRm16Imm16 dst imm => exact aluRm16Imm16 .add dst imm
  | orRm16Imm16 dst imm => exact aluRm16Imm16 .or dst imm
  | adcRm16Imm16 dst imm => exact aluRm16Imm16 .adc dst imm
  | sbbRm16Imm16 dst imm => exact aluRm16Imm16 .sbb dst imm
  | andRm16Imm16 dst imm => exact aluRm16Imm16 .and dst imm
  | subRm16Imm16 dst imm => exact aluRm16Imm16 .sub dst imm
  | xorRm16Imm16 dst imm => exact aluRm16Imm16 .xor dst imm
  | cmpRm16Imm16 dst imm => exact aluRm16Imm16 .cmp dst imm
  | addRm16SImm8 dst imm => exact aluRm16SImm8 .add dst imm
  | orRm16SImm8 dst imm => exact aluRm16SImm8 .or dst imm
  | adcRm16SImm8 dst imm => exact aluRm16SImm8 .adc dst imm
  | sbbRm16SImm8 dst imm => exact aluRm16SImm8 .sbb dst imm
  | andRm16SImm8 dst imm => exact aluRm16SImm8 .and dst imm
  | subRm16SImm8 dst imm => exact aluRm16SImm8 .sub dst imm
  | xorRm16SImm8 dst imm => exact aluRm16SImm8 .xor dst imm
  | cmpRm16SImm8 dst imm => exact aluRm16SImm8 .cmp dst imm
  | movRm8R8 dst src => exact movRm8R8 dst src
  | movRm16R16 dst src => exact movRm16R16 dst src
  | movR8Rm8 dst src => exact movR8Rm8 dst src
  | movR16Rm16 dst src => exact movR16Rm16 dst src
  | movRm16Sreg dst src => exact movRm16Sreg dst src
  | movSregRm16 dst src => exact movSregRm16 dst src
  | movR8Imm8 dst imm => exact movR8Imm8 dst imm
  | movR16Imm16 dst imm => exact movR16Imm16 dst imm
  | les dst src => exact les dst src
  | lds dst src => exact lds dst src
  | pushR16 src => exact pushR16 src
  | popR16 dst => exact popR16 dst
  | pusha => exact pusha
  | popa => exact popa
  | ret => exact ret
  | retImm16 imm => exact retImm16 imm
  | int vector => exact int vector
  | pushEs => exact pushSeg .es
  | pushCs => exact pushSeg .cs
  | pushSs => exact pushSeg .ss
  | pushDs => exact pushSeg .ds
  | popEs => exact popSeg .es _ rfl
  | popSs => exact popSeg .ss _ rfl
  | popDs => exact popSeg .ds _ rfl
  | jo disp => exact jcc .o disp
  | jno disp => exact jcc .no disp
  | jb disp => exact jcc .b disp
  | jae disp => exact jcc .ae disp
  | je disp => exact jcc .e disp
  | jne disp => exact jcc .ne disp
  | jbe disp => exact jcc .be disp
  | ja disp => exact jcc .a disp
  | js disp => exact jcc .s disp
  | jns disp => exact jcc .ns disp
  | jp disp => exact jcc .p disp
  | jnp disp => exact jcc .np disp
  | jl disp => exact jcc .l disp
  | jge disp => exact jcc .ge disp
  | jle disp => exact jcc .le disp
  | jg disp => exact jcc .g disp

/-! ### The length of each family -/

open Laws.EncodingLength in
/-- Every encoding has the length of its format, one to six bytes (R100, R101, R113). -/
theorem encodingLength (i : Instr) : Statement i := by
  cases i using byFamily with
  | aluRm8R8 op dst src => cases op <;> exact bareRM _ _ _ dst
  | aluRm16R16 op dst src => cases op <;> exact bareRM _ _ _ dst
  | aluR8Rm8 op dst src => cases op <;> exact bareRM _ _ _ src
  | aluR16Rm16 op dst src => cases op <;> exact bareRM _ _ _ src
  | aluAlImm8 op imm => cases op <;> exact two
  | aluAxImm16 op imm => cases op <;> exact three
  | aluRm8Imm8 op dst imm => cases op <;> exact withRM _ _ _ dst [imm] (Nat.le_succ 1)
  | aluRm16Imm16 op dst imm => cases op <;> exact withRM _ _ _ dst (wordBytes imm) (Nat.le_refl 2)
  | aluRm16SImm8 op dst imm => cases op <;> exact withRM _ _ _ dst [imm] (Nat.le_succ 1)
  | movRm8R8 dst src => exact movRm8R8 dst src
  | movRm16R16 dst src => exact movRm16R16 dst src
  | movR8Rm8 dst src => exact movR8Rm8 dst src
  | movR16Rm16 dst src => exact movR16Rm16 dst src
  | movRm16Sreg dst src => exact movRm16Sreg dst src
  | movSregRm16 dst src => exact movSregRm16 dst src
  | movR8Imm8 dst imm => exact movR8Imm8 dst imm
  | movR16Imm16 dst imm => exact movR16Imm16 dst imm
  | les dst src => exact les dst src
  | lds dst src => exact lds dst src
  | pushR16 src => exact pushR16 src
  | popR16 dst => exact popR16 dst
  | pusha => exact pusha
  | popa => exact popa
  | ret => exact ret
  | retImm16 imm => exact retImm16 imm
  | int v => exact int v
  | pushSeg sr => cases sr <;> exact one
  | popSeg sr i hi => cases sr <;> cases hi <;> exact one
  | jcc c disp => cases c <;> exact two

/-! ### The meaning of each family -/

@[simp] theorem exec_aluRm8R8 (op : AluOp) (dst : RM Reg8) (src : Reg8) (s : State) :
    exec (aluRm8R8 op dst src) s = toOutcome (aluToRM8 op dst (s.reg8 src) dst.len s) := by cases op <;> rfl

@[simp] theorem exec_aluRm16R16 (op : AluOp) (dst : RM Reg16) (src : Reg16) (s : State) :
    exec (aluRm16R16 op dst src) s = toOutcome (aluToRM16 op dst (s.reg16 src) dst.len s) := by cases op <;> rfl

@[simp] theorem exec_aluR8Rm8 (op : AluOp) (dst : Reg8) (src : RM Reg8) (s : State) :
    exec (aluR8Rm8 op dst src) s = toOutcome (aluToReg8 op dst src s) := by cases op <;> rfl

@[simp] theorem exec_aluR16Rm16 (op : AluOp) (dst : Reg16) (src : RM Reg16) (s : State) :
    exec (aluR16Rm16 op dst src) s = toOutcome (aluToReg16 op dst src s) := by cases op <;> rfl

@[simp] theorem exec_aluAlImm8 (op : AluOp) (imm : Byte) (s : State) :
    exec (aluAlImm8 op imm) s = toOutcome (aluToRM8 op (.reg .al) imm 2 s) := by cases op <;> rfl

@[simp] theorem exec_aluAxImm16 (op : AluOp) (imm : Word) (s : State) :
    exec (aluAxImm16 op imm) s = toOutcome (aluToRM16 op (.reg .ax) imm 3 s) := by cases op <;> rfl

@[simp] theorem exec_aluRm8Imm8 (op : AluOp) (dst : RM Reg8) (imm : Byte) (s : State) :
    exec (aluRm8Imm8 op dst imm) s = toOutcome (aluToRM8 op dst imm (dst.len + 1) s) := by cases op <;> rfl

@[simp] theorem exec_aluRm16Imm16 (op : AluOp) (dst : RM Reg16) (imm : Word) (s : State) :
    exec (aluRm16Imm16 op dst imm) s = toOutcome (aluToRM16 op dst imm (dst.len + 2) s) := by cases op <;> rfl

@[simp] theorem exec_aluRm16SImm8 (op : AluOp) (dst : RM Reg16) (imm : Byte) (s : State) :
    exec (aluRm16SImm8 op dst imm) s = toOutcome (aluToRM16 op dst (sext16 imm) (dst.len + 1) s) := by cases op <;> rfl

@[simp] theorem exec_movRm8R8 (dst : RM Reg8) (src : Reg8) (s : State) :
    exec (.movRm8R8 dst src) s = toOutcome (movToRM8 dst (s.reg8 src) dst.len s) := rfl

@[simp] theorem exec_movRm16R16 (dst : RM Reg16) (src : Reg16) (s : State) :
    exec (.movRm16R16 dst src) s = toOutcome (movToRM16 dst (s.reg16 src) dst.len s) := rfl

@[simp] theorem exec_movRm16Sreg (dst : RM Reg16) (src : SReg) (s : State) :
    exec (.movRm16Sreg dst src) s = toOutcome (movToRM16 dst (s.seg src) dst.len s) := rfl

@[simp] theorem exec_movR8Rm8 (dst : Reg8) (src : RM Reg8) (s : State) :
    exec (.movR8Rm8 dst src) s =
      toOutcome ((s.readRM8 src).map fun v => (s.setReg8 dst v).advance src.len) := by
  cases h : s.readRM8 src <;> simp [exec, execMovR8Rm8, State.execToReg, h] <;> rfl

@[simp] theorem exec_movR16Rm16 (dst : Reg16) (src : RM Reg16) (s : State) :
    exec (.movR16Rm16 dst src) s =
      toOutcome ((s.readRM16 src).map fun v => (s.setReg16 dst v).advance src.len) := by
  cases h : s.readRM16 src <;> simp [exec, execMovR16Rm16, State.execToReg, h] <;> rfl

@[simp] theorem exec_movSregRm16 (dst : SReg) (src : RM Reg16) (s : State) :
    exec (.movSregRm16 dst src) s =
      toOutcome ((s.readRM16 src).map fun v => (s.setSeg dst v).advance src.len) := by
  cases h : s.readRM16 src <;> simp [exec, execMovSregRm16, State.execToReg, h] <;> rfl

@[simp] theorem exec_movR8Imm8 (dst : Reg8) (imm : Byte) (s : State) :
    exec (.movR8Imm8 dst imm) s = .next ((s.setReg8 dst imm).advance 2) := rfl

@[simp] theorem exec_movR16Imm16 (dst : Reg16) (imm : Word) (s : State) :
    exec (.movR16Imm16 dst imm) s = .next ((s.setReg16 dst imm).advance 3) := rfl

@[simp] theorem exec_les (dst : Reg16) (src : MemForm) (s : State) :
    exec (.les dst src) s = toOutcome (loadFar .es dst src s) := rfl

@[simp] theorem exec_lds (dst : Reg16) (src : MemForm) (s : State) :
    exec (.lds dst src) s = toOutcome (loadFar .ds dst src s) := rfl

@[simp] theorem exec_pushR16 (src : Reg16) (s : State) :
    exec (.pushR16 src) s = toOutcome (pushValue (s.reg16 src) s) := rfl

@[simp] theorem exec_pushSeg (sr : SReg) (s : State) :
    exec (pushSeg sr) s = toOutcome (pushValue (s.seg sr) s) := by cases sr <;> rfl

@[simp] theorem exec_popR16 (dst : Reg16) (s : State) :
    exec (.popR16 dst) s = toOutcome (popTo (·.setReg16 dst ·) s) := rfl

theorem exec_popSeg {sr : SReg} {i : Instr} (h : popSeg sr = some i) (s : State) :
    exec i s = toOutcome (popTo (·.setSeg sr ·) s) := by
  cases sr <;> cases h <;> rfl

@[simp] theorem exec_pusha (s : State) :
    exec .pusha s = toOutcome ((s.pushAll s.gpr.inOrder).map (·.advance 1)) := rfl

@[simp] theorem exec_popa (s : State) : exec .popa s = toOutcome (popAllRegs s) := rfl

@[simp] theorem exec_ret (s : State) :
    exec .ret s = toOutcome (s.pop.map fun p => p.2.setIp p.1.toNat) := rfl

@[simp] theorem exec_retImm16 (imm : Word) (s : State) :
    exec (.retImm16 imm) s =
      toOutcome (s.pop.map fun p => (p.2.setReg16 .sp (p.2.reg16 .sp + imm)).setIp p.1.toNat) := rfl

@[simp] theorem exec_jcc (c : Cond) (disp : Byte) (s : State) :
    exec (jcc c disp) s = .next (jumpIf c disp s) := by cases c <;> rfl

@[simp] theorem exec_int (v : Byte) (s : State) : exec (.int v) s = execInt v s := rfl

end Sys2Proof.Proofs

namespace Sys2Proof.Proofs

open Sys2Proof.Machine Sys2Proof.Statements

/-! ## Scope: what an instruction that completes has done

Each shared operation answers exactly when its operand fits, and then with the state the statements write
(`aluEffect`, `store8`, `store16`). -/

@[simp] theorem except_map_eq_ok {ε α β : Type} {x : Except ε α} {f : α → β} {b : β} :
    x.map f = .ok b ↔ ∃ a, x = .ok a ∧ f a = b := by
  cases x <;> simp [Except.map]

/-- A checked answer is there exactly when the check holds. -/
theorem checked_eq_ok {ε α : Type} {c : Prop} [Decidable c] {a b : α} {e : ε} :
    (if c then Except.ok a else .error e) = .ok b ↔ c ∧ a = b := by
  split <;> simp [*]

@[simp] theorem readRM8_ok {s : State} {rm : RM Reg8} {v : Byte} :
    s.readRM8 rm = .ok v ↔ fits8 s rm ∧ value8 s rm = v := by
  cases rm with
  | reg r => simp [State.readRM8, fits8, value8]
  | mem m => rw [State.readRM8_mem, State.read8_eq, checked_eq_ok]; rfl

@[simp] theorem readRM16_ok {s : State} {rm : RM Reg16} {v : Word} :
    s.readRM16 rm = .ok v ↔ fits16 s rm ∧ value16 s rm = v := by
  cases rm with
  | reg r => simp [State.readRM16, fits16, value16]
  | mem m => rw [State.readRM16_mem, State.read16_eq, checked_eq_ok]; rfl

theorem writeRM8_of_fits8 {s : State} {rm : RM Reg8} (h : fits8 s rm) (v : Byte) :
    s.writeRM8 rm v = .ok (store8 s rm v) := by
  cases rm with
  | reg r => rfl
  | mem m => exact (State.write8_eq s _ v).trans (if_pos h)

theorem writeRM16_of_fits16 {s : State} {rm : RM Reg16} (h : fits16 s rm) (v : Word) :
    s.writeRM16 rm v = .ok (store16 s rm v) := by
  cases rm with
  | reg r => rfl
  | mem m => exact (State.write16_eq s _ v).trans (if_pos h)

/-! ### The executor, for an rm side that is read when `fits` and then written by `store` -/

section Executor

variable {n : Nat} {s t : State} {fits : Prop} {value src : BitVec n} {read : Except Fault (BitVec n)}
  {write : BitVec n → Except Fault State} {store : BitVec n → State} {len : Nat}
  (hread : ∀ {v}, read = .ok v ↔ fits ∧ value = v) (hwrite : fits → ∀ v, write v = .ok (store v))
include hread hwrite

/-- An ALU operation on an rm side. -/
theorem execToRM_alu_ok (op : AluOp) :
    s.execToRM read src write (fun a b => aluResult op a b s.flags.CF)
      (fun a b => some (aluFlags op a b s.flags.CF)) op.commits len = .ok t ↔
      fits ∧ aluEffect op value src len store s = t := by
  cases hr : read with
  | error f =>
    have hf : ¬ fits := fun hf => by simp [hread.mpr ⟨hf, rfl⟩] at hr
    simp [State.execToRM, hf, bind, Except.bind]
  | ok v =>
    obtain ⟨hf, rfl⟩ := hread.mp hr
    cases op <;>
      simp [State.execToRM, AluOp.commits, aluEffect, State.setStatus?, hwrite hf, hf, bind, Except.bind, pure,
        Except.pure]

/-- A move to an rm side. -/
theorem execToRM_move_ok :
    s.execToRM read src write (fun _ b => b) (fun _ _ => none) true len = .ok t ↔
      fits ∧ (store src).advance len = t := by
  cases hr : read with
  | error f =>
    have hf : ¬ fits := fun hf => by simp [hread.mpr ⟨hf, rfl⟩] at hr
    simp [State.execToRM, hf, bind, Except.bind]
  | ok v =>
    obtain ⟨hf, rfl⟩ := hread.mp hr
    simp [State.execToRM, State.setStatus?, hwrite hf, hf, bind, Except.bind, pure, Except.pure]

end Executor

/-- An ALU operation on a register, whatever the rm side answers. -/
theorem execToReg_alu {n : Nat} (op : AluOp) (s : State) (a : BitVec n) (src : Except Fault (BitVec n))
    (write : BitVec n → State) (len : Nat) :
    s.execToReg a src write (fun x y => aluResult op x y s.flags.CF)
      (fun x y => some (aluFlags op x y s.flags.CF)) op.commits len =
      src.map fun b => aluEffect op a b len write s := by
  cases src <;> cases op <;> rfl

/-! ### The shared operations -/

@[simp] theorem aluToRM8_ok {op : AluOp} {dst : RM Reg8} {src : Byte} {len : Nat} {s t : State} :
    aluToRM8 op dst src len s = .ok t ↔
      fits8 s dst ∧ aluEffect op (value8 s dst) src len (store8 s dst) s = t :=
  execToRM_alu_ok readRM8_ok writeRM8_of_fits8 op

@[simp] theorem aluToRM16_ok {op : AluOp} {dst : RM Reg16} {src : Word} {len : Nat} {s t : State} :
    aluToRM16 op dst src len s = .ok t ↔
      fits16 s dst ∧ aluEffect op (value16 s dst) src len (store16 s dst) s = t :=
  execToRM_alu_ok readRM16_ok writeRM16_of_fits16 op

@[simp] theorem aluToReg8_ok {op : AluOp} {dst : Reg8} {src : RM Reg8} {s t : State} :
    aluToReg8 op dst src s = .ok t ↔
      fits8 s src ∧ aluEffect op (s.reg8 dst) (value8 s src) src.len (s.setReg8 dst) s = t := by
  simp [aluToReg8, execToReg_alu, and_assoc]

@[simp] theorem aluToReg16_ok {op : AluOp} {dst : Reg16} {src : RM Reg16} {s t : State} :
    aluToReg16 op dst src s = .ok t ↔
      fits16 s src ∧ aluEffect op (s.reg16 dst) (value16 s src) src.len (s.setReg16 dst) s = t := by
  simp [aluToReg16, execToReg_alu, and_assoc]

@[simp] theorem movToRM8_ok {dst : RM Reg8} {src : Byte} {len : Nat} {s t : State} :
    movToRM8 dst src len s = .ok t ↔ fits8 s dst ∧ (store8 s dst src).advance len = t :=
  execToRM_move_ok readRM8_ok writeRM8_of_fits8

@[simp] theorem movToRM16_ok {dst : RM Reg16} {src : Word} {len : Nat} {s t : State} :
    movToRM16 dst src len s = .ok t ↔ fits16 s dst ∧ (store16 s dst src).advance len = t :=
  execToRM_move_ok readRM16_ok writeRM16_of_fits16

@[simp] theorem loadFar_ok {sr : SReg} {dst : Reg16} {m : MemForm} {s t : State} :
    loadFar sr dst m s = .ok t ↔ s.operandAddr m + 4 ≤ Config.memSize ∧
      ((s.setReg16 dst (Memory.word s.mem (s.operandAddr m))).setSeg sr
        (Memory.word s.mem (s.operandAddr m + 2))).advance m.len = t := by
  rw [loadFar_eq, checked_eq_ok]

@[simp] theorem pushValue_ok {v : Word} {s t : State} :
    pushValue v s = .ok t ↔ s.stackAddr (s.reg16 .sp - 2) + 2 ≤ Config.memSize ∧
      ((s.setReg16 .sp (s.reg16 .sp - 2)).setMem
        (Memory.setWord s.mem (s.stackAddr (s.reg16 .sp - 2)) v)).advance 1 = t := by
  rw [pushValue_eq, checked_eq_ok]

@[simp] theorem popTo_ok {write : State → Word → State} {s t : State} :
    popTo write s = .ok t ↔ s.stackAddr (s.reg16 .sp) + 2 ≤ Config.memSize ∧
      (write (s.setReg16 .sp (s.reg16 .sp + 2)) (Memory.word s.mem (s.stackAddr (s.reg16 .sp)))).advance 1 = t := by
  rw [popTo_eq, checked_eq_ok]

@[simp] theorem pop_ok {s : State} {p : Word × State} :
    s.pop = .ok p ↔ s.stackAddr (s.reg16 .sp) + 2 ≤ Config.memSize ∧
      (Memory.word s.mem (s.stackAddr (s.reg16 .sp)), s.setReg16 .sp (s.reg16 .sp + 2)) = p := by
  rw [State.pop_eq, checked_eq_ok]

/-- POPA replaces the general registers and nothing else but `ip`. -/
theorem popAllRegs_ok {s t : State} (h : popAllRegs s = .ok t) : ∃ g : Gpr, t = { s with gpr := g }.advance 1 := by
  simp only [popAllRegs, bind, Except.bind, pure, Except.pure] at h
  repeat (split at h; · cases h)
  exact ⟨_, (Except.ok.inj h).symm⟩

end Sys2Proof.Proofs

namespace Sys2Proof.Proofs

open Sys2Proof.Machine Sys2Proof.Statements

/-! ## Scope: registers -/

/-- Settles O13: every clause is a value of `State.reset`. -/
theorem resetStateMeetsTheInvariant : Obligations.ResetStateMeetsTheInvariant := by
  refine ⟨⟨rfl, rfl, rfl, rfl⟩, fun r => ?_, fun r => ?_, rfl, fun _ => rfl, fun _ => rfl, rfl, rfl, rfl, rfl, rfl⟩
  · cases r <;> rfl
  · cases r <;> rfl

/-- The cell of an 8-bit view and its half, by index (R32). -/
theorem cell_ofCode (i : BitVec 3) :
    (i.toNat < 4 → Reg8.cell (Reg8.ofCode i) = Reg16.ofCode i ∧ Reg8.isHigh (Reg8.ofCode i) = false) ∧
    (4 ≤ i.toNat → Reg8.cell (Reg8.ofCode i) = Reg16.ofCode (i - 4) ∧ Reg8.isHigh (Reg8.ofCode i) = true) := by
  revert i; decide

/-- The high view of a cell 0 to 3 (R32). -/
theorem cell_ofCode_add_four (i : BitVec 3) (h : i.toNat < 4) :
    Reg8.cell (Reg8.ofCode (i + 4)) = Reg16.ofCode i ∧ Reg8.isHigh (Reg8.ofCode (i + 4)) = true := by
  revert i; decide

theorem reg8_of_low {r : Reg8} (h : Reg8.isHigh r = false) (s : State) :
    s.reg8 r = lowByte (s.reg16 (Reg8.cell r)) := by
  simp [State.reg8, State.reg16, Gpr.get8, h]

theorem reg8_of_high {r : Reg8} (h : Reg8.isHigh r = true) (s : State) :
    s.reg8 r = highByte (s.reg16 (Reg8.cell r)) := by
  simp [State.reg8, State.reg16, Gpr.get8, h]

@[simp] theorem reg16_setReg8_cell (s : State) (r : Reg8) (v : Byte) :
    (s.setReg8 r v).reg16 (Reg8.cell r) = maskOr (s.reg16 (Reg8.cell r)) (Reg8.isHigh r) v := Gpr.get_set_self ..

@[simp] theorem reg16_setReg16_self (s : State) (r : Reg16) (v : Word) : (s.setReg16 r v).reg16 r = v :=
  Gpr.get_set_self ..

/-- Settles O19: a view reads its half of its cell, and after both halves are written the cell is the two bytes. -/
theorem byteViewRead : Obligations.ByteViewRead := by
  refine ⟨fun s i => ?_, fun s i lo hi h => ?_⟩
  · obtain ⟨hlow, hhigh⟩ := cell_ofCode i
    split
    next h => obtain ⟨hc, hh⟩ := hlow h; rw [reg8_of_low hh, hc]; rfl
    next h => obtain ⟨hc, hh⟩ := hhigh (by omega); rw [reg8_of_high hh, hc]; rfl
  · obtain ⟨hc, hl⟩ := (cell_ofCode i).1 h
    obtain ⟨hc', hh⟩ := cell_ofCode_add_four i h
    have after_low (u : State) : (u.setReg8 (Reg8.ofCode i) lo).reg16 (Reg16.ofCode i) =
        wordOfBytes lo (highByte (u.reg16 (Reg16.ofCode i))) := by
      rw [← hc, reg16_setReg8_cell, maskOr_eq, hl]; rfl
    have after_high (u : State) : (u.setReg8 (Reg8.ofCode (i + 4)) hi).reg16 (Reg16.ofCode i) =
        wordOfBytes (lowByte (u.reg16 (Reg16.ofCode i))) hi := by
      rw [← hc', reg16_setReg8_cell, maskOr_eq, hh]; rfl
    exact ⟨by rw [after_high, after_low, lowByte_wordOfBytes]; rfl,
      by rw [after_low, after_high, highByte_wordOfBytes]; rfl⟩

/-- A write of an 8-bit view leaves the other views and cells alone (R34). -/
theorem regsButView_setReg8 (s : State) (r : Reg8) (v : Byte) : RegsButView s (s.setReg8 r v) r :=
  ⟨fun _ h => Gpr.get8_set8_ne s.gpr v h, fun _ h => Gpr.get_set8_ne s.gpr v h⟩

/-- A write of a 16-bit register leaves the others alone (R35). -/
theorem regsBut_setReg16 (s : State) (r : Reg16) (v : Word) : RegsBut s (s.setReg16 r v) [r] :=
  fun _ h => Gpr.get_set_ne s.gpr v fun e => h (by simp [e])

/-- A write of a segment register leaves the others alone (R39). -/
theorem segsBut_setSeg (s : State) (r : SReg) (v : Word) : SegsBut s (s.setSeg r v) [r] :=
  fun _ h => Segs.get_set_ne s.sreg v fun e => h (by simp [e])

/-- Settles O20: the write is `maskOr` on the cell of the view. -/
theorem byteViewWrite : Obligations.ByteViewWrite := by
  refine fun s i v => ⟨fun h => ?_, fun h => ?_, Gpr.get8_set8_self .., regsButView_setReg8 s _ v⟩
  · obtain ⟨hc, hl⟩ := (cell_ofCode i).1 h
    rw [← hc, reg16_setReg8_cell, hl]; rfl
  · obtain ⟨hc, hh⟩ := (cell_ofCode i).2 h
    rw [← hc, reg16_setReg8_cell, hh]; rfl

/-- Settles O21: the cell is the word written, and its two views read that cell. -/
theorem wordRegisterWrite : Obligations.WordRegisterWrite := by
  refine fun s i v => ⟨reg16_setReg16_self .., fun h => ⟨?_, ?_⟩, regsBut_setReg16 s _ v⟩
  · obtain ⟨hc, hl⟩ := (cell_ofCode i).1 h
    rw [reg8_of_low hl, hc, reg16_setReg16_self]; rfl
  · obtain ⟨hc, hh⟩ := cell_ofCode_add_four i h
    rw [reg8_of_high hh, hc, reg16_setReg16_self]; rfl

/-! ## Scope: the moves, the returns and the jumps complete -/

/-- Settles O33: both meanings are a register write and an advance. -/
theorem movImmediateCompletes : Obligations.MovImmediateCompletes :=
  fun s => ⟨fun r v => exec_movR8Imm8 r v s, fun r v => exec_movR16Imm16 r v s⟩

theorem advance_store8 (s : State) (rm : RM Reg8) (v : Byte) (len : Nat) :
    (store8 s rm v).advance len = { store8 s rm v with ip := s.ip + len } := by cases rm <;> rfl

theorem advance_store16 (s : State) (rm : RM Reg16) (v : Word) (len : Nat) :
    (store16 s rm v).advance len = { store16 s rm v with ip := s.ip + len } := by cases rm <;> rfl

/-- Settles O34: the rm side fits, so it is read and written without a fault. -/
theorem movRegRmCompletes : Obligations.MovRegRmCompletes := by
  refine fun s => ⟨fun dst src h => ?_, fun dst src h => ?_, fun dst src h => ?_, fun dst src h => ?_,
    fun dst sr h => ?_, fun sr src h => ?_⟩
  · rw [exec_movRm8R8, toOutcome_next, movToRM8_ok]; exact ⟨h, advance_store8 ..⟩
  · rw [exec_movRm16R16, toOutcome_next, movToRM16_ok]; exact ⟨h, advance_store16 ..⟩
  · rw [exec_movR8Rm8, readRM8_ok.mpr ⟨h, rfl⟩]; rfl
  · rw [exec_movR16Rm16, readRM16_ok.mpr ⟨h, rfl⟩]; rfl
  · rw [exec_movRm16Sreg, toOutcome_next, movToRM16_ok]; exact ⟨h, advance_store16 ..⟩
  · rw [exec_movSregRm16, readRM16_ok.mpr ⟨h, rfl⟩]; rfl

/-- Settles O35: the two words were read before either register was written. -/
theorem farPointerLoadCompletes : Obligations.FarPointerLoadCompletes := by
  intro s dst m hfit
  have load (sr : SReg) : ∃ t, loadFar sr dst m s = .ok t ∧ t.reg16 dst = Memory.word s.mem (s.operandAddr m) ∧
      t.seg sr = Memory.word s.mem (s.operandAddr m + 2) ∧ t.ip = s.ip + m.len ∧ SegsBut s t [sr] ∧
      RegsBut s t [dst] ∧ t.flags = s.flags ∧ t.mem = s.mem ∧ OutsideSame s t :=
    ⟨_, loadFar_ok.mpr ⟨hfit, rfl⟩, Gpr.get_set_self .., Segs.get_set_self .., rfl, segsBut_setSeg s sr _,
      regsBut_setReg16 s dst _, rfl, rfl, rfl, rfl, rfl, rfl, rfl⟩
  simp only [exec_les, exec_lds, toOutcome_next]
  exact ⟨load .es, load .ds⟩

theorem slotAbove_zero (s : State) : slotAbove s 0 = s.stackAddr (s.reg16 .sp) :=
  congrArg s.stackAddr (BitVec.add_zero _)

/-- Settles O44: the pop answers with the top word and the state with SP moved. -/
theorem returnCompletes : Obligations.ReturnCompletes := by
  intro s hfit
  rw [slotAbove_zero] at hfit ⊢
  have hpop := pop_ok.mpr ⟨hfit, rfl⟩
  refine ⟨by rw [exec_ret, hpop]; rfl, fun n => by rw [exec_retImm16, hpop]; rfl⟩

theorem jumpIf_eq (c : Cond) (disp : Byte) (s : State) :
    jumpIf c disp s = { s with ip := if c.holds s.flags then s.ip + disp.toInt + 2 else s.ip + 2 } := by
  unfold jumpIf; split <;> rfl

/-- Settles O50: each jump is `jumpIf` of its condition; the spec's conditions are those of `Cond.holds` up to the laws
of Boolean algebra. -/
theorem conditionalJumpCompletes : Obligations.ConditionalJumpCompletes := by
  intro s d
  have jump (c : Cond) {b : Bool} (h : c.holds s.flags = b) : exec (jcc c d) s =
      .next { s with ip := if b then s.ip + d.toInt + 2 else s.ip + 2 } := by
    rw [exec_jcc, jumpIf_eq, h]
  have hge : (s.flags.SF == s.flags.OF) = !(s.flags.SF ^^ s.flags.OF) := by
    cases s.flags.SF <;> cases s.flags.OF <;> rfl
  exact ⟨jump .o rfl, jump .no rfl, jump .b rfl, jump .ae rfl, jump .e rfl, jump .ne rfl, jump .be rfl,
    jump .a (Bool.not_or ..).symm, jump .s rfl, jump .ns rfl, jump .p rfl, jump .np rfl, jump .l rfl, jump .ge hge,
    jump .le rfl, jump .g (by rw [Bool.not_or, ← hge]; rfl)⟩

/-! ## Scope: what an instruction leaves unchanged -/

theorem regsBut_of_gpr {s t : State} (h : t.gpr = s.gpr) (written : List Reg16) : RegsBut s t written :=
  fun q _ => congrArg (·.get q) h

theorem segsBut_of_sreg {s t : State} (h : t.sreg = s.sreg) (written : List SReg) : SegsBut s t written :=
  fun q _ => congrArg (·.get q) h

theorem memorySame_of_mem {s t : State} (h : t.mem = s.mem) : MemorySame s t := fun a => congrArg (Memory.byte · a) h

theorem memoryBut_setByte {s t : State} {p : Nat} {v : Byte} (h : t.mem = Memory.setByte s.mem p v) :
    MemoryBut s t p 1 := fun a ha => by rw [h, Memory.byte_setByte_ne _ _ (by omega)]

theorem memoryBut_setWord {s t : State} {p : Nat} {v : Word} (h : t.mem = Memory.setWord s.mem p v) :
    MemoryBut s t p 2 := fun a ha => by rw [h, Memory.byte_setWord_ne _ _ (by omega) (by omega)]

/-- CMP writes no result, so it changes only the flags and `ip` (R145). -/
theorem aluEffect_cmp_frame {n : Nat} (a b : BitVec n) (len : Nat) (write : BitVec n → State) (s : State) :
    RegsBut s (aluEffect .cmp a b len write s) [] ∧ SegsBut s (aluEffect .cmp a b len write s) [] ∧
      UnusedFlagsSame s (aluEffect .cmp a b len write s) ∧ OutsideSame s (aluEffect .cmp a b len write s) ∧
      MemorySame s (aluEffect .cmp a b len write s) :=
  ⟨regsBut_of_gpr rfl _, segsBut_of_sreg rfl _, ⟨rfl, rfl, rfl, rfl⟩, ⟨rfl, rfl, rfl, rfl, rfl⟩, memorySame_of_mem rfl⟩

theorem aluEffect_of_ne_cmp {n : Nat} {op : AluOp} (h : op ≠ .cmp) (a b : BitVec n) (len : Nat)
    (write : BitVec n → State) (s : State) :
    aluEffect op a b len write s =
      ((write (aluResult op a b s.flags.CF)).setStatus (aluFlags op a b s.flags.CF)).advance len := by
  rw [aluEffect, if_neg h]

/-- The ALU forms with an 8-bit register destination are one operation on that register. -/
theorem aluInto8_next {op : AluOp} {r : Reg8} {i : Instr} {s t : State} (hi : AluInto8 op r i)
    (hx : exec i s = .next t) : ∃ a b len, t = aluEffect op a b len (s.setReg8 r) s := by
  obtain ⟨src, rfl⟩ | ⟨src, rfl⟩ | ⟨imm, rfl, rfl⟩ | ⟨imm, rfl⟩ := hi <;>
    simp only [exec_aluRm8R8, exec_aluR8Rm8, exec_aluAlImm8, exec_aluRm8Imm8, toOutcome_next, aluToRM8_ok,
      aluToReg8_ok] at hx <;>
    exact ⟨_, _, _, hx.2.symm⟩

/-- The ALU forms with a 16-bit register destination are one operation on that register. -/
theorem aluInto16_next {op : AluOp} {r : Reg16} {i : Instr} {s t : State} (hi : AluInto16 op r i)
    (hx : exec i s = .next t) : ∃ a b len, t = aluEffect op a b len (s.setReg16 r) s := by
  obtain ⟨src, rfl⟩ | ⟨src, rfl⟩ | ⟨imm, rfl, rfl⟩ | ⟨imm, rfl⟩ | ⟨imm, rfl⟩ := hi <;>
    simp only [exec_aluRm16R16, exec_aluR16Rm16, exec_aluAxImm16, exec_aluRm16Imm16, exec_aluRm16SImm8,
      toOutcome_next, aluToRM16_ok, aluToReg16_ok] at hx <;>
    exact ⟨_, _, _, hx.2.symm⟩

/-- The ALU forms with a byte of memory as destination are one operation on that byte. -/
theorem aluIntoMem8_next {op : AluOp} {m : MemForm} {i : Instr} {s t : State} (hi : AluIntoMem8 op m i)
    (hx : exec i s = .next t) : ∃ a b len, t = aluEffect op a b len (store8 s (.mem m)) s := by
  obtain ⟨src, rfl⟩ | ⟨imm, rfl⟩ := hi <;>
    simp only [exec_aluRm8R8, exec_aluRm8Imm8, toOutcome_next, aluToRM8_ok] at hx <;>
    exact ⟨_, _, _, hx.2.symm⟩

/-- The ALU forms with a word of memory as destination are one operation on that word. -/
theorem aluIntoMem16_next {op : AluOp} {m : MemForm} {i : Instr} {s t : State} (hi : AluIntoMem16 op m i)
    (hx : exec i s = .next t) : ∃ a b len, t = aluEffect op a b len (store16 s (.mem m)) s := by
  obtain ⟨src, rfl⟩ | ⟨imm, rfl⟩ | ⟨imm, rfl⟩ := hi <;>
    simp only [exec_aluRm16R16, exec_aluRm16Imm16, exec_aluRm16SImm8, toOutcome_next, aluToRM16_ok] at hx <;>
    exact ⟨_, _, _, hx.2.symm⟩

/-- Settles O31: each form is one operation on its register, and CMP writes only the flags. -/
theorem aluRegisterFrame : Obligations.AluRegisterFrame := by
  refine fun op i s t hx => ⟨fun r hi => ?_, fun r hi => ?_⟩
  · obtain ⟨a, b, len, rfl⟩ := aluInto8_next hi hx
    by_cases hop : op = .cmp
    · subst hop
      obtain ⟨regs, segs, unused, outside, mem⟩ := aluEffect_cmp_frame a b len _ s
      exact ⟨regs, segs, unused, mem, outside⟩
    · rw [if_neg hop, aluEffect_of_ne_cmp hop]
      exact ⟨regsButView_setReg8 s r _, segsBut_of_sreg rfl _, ⟨rfl, rfl, rfl, rfl⟩, memorySame_of_mem rfl,
        rfl, rfl, rfl, rfl, rfl⟩
  · obtain ⟨a, b, len, rfl⟩ := aluInto16_next hi hx
    by_cases hop : op = .cmp
    · subst hop
      obtain ⟨regs, segs, unused, outside, mem⟩ := aluEffect_cmp_frame a b len _ s
      exact ⟨regs, segs, unused, mem, outside⟩
    · rw [if_neg hop, aluEffect_of_ne_cmp hop]
      exact ⟨regsBut_setReg16 s r _, segsBut_of_sreg rfl _, ⟨rfl, rfl, rfl, rfl⟩, memorySame_of_mem rfl,
        rfl, rfl, rfl, rfl, rfl⟩

/-- Settles O32: each form is one operation on its operand in memory, and CMP writes only the flags. -/
theorem aluMemoryFrame : Obligations.AluMemoryFrame := by
  refine fun op m i s t hx => ⟨fun hi => ?_, fun hi => ?_⟩
  · obtain ⟨a, b, len, rfl⟩ := aluIntoMem8_next hi hx
    by_cases hop : op = .cmp
    · subst hop
      exact aluEffect_cmp_frame a b len _ s
    · rw [if_neg hop, aluEffect_of_ne_cmp hop]
      exact ⟨regsBut_of_gpr rfl _, segsBut_of_sreg rfl _, ⟨rfl, rfl, rfl, rfl⟩, ⟨rfl, rfl, rfl, rfl, rfl⟩,
        memoryBut_setByte rfl⟩
  · obtain ⟨a, b, len, rfl⟩ := aluIntoMem16_next hi hx
    by_cases hop : op = .cmp
    · subst hop
      exact aluEffect_cmp_frame a b len _ s
    · rw [if_neg hop, aluEffect_of_ne_cmp hop]
      exact ⟨regsBut_of_gpr rfl _, segsBut_of_sreg rfl _, ⟨rfl, rfl, rfl, rfl⟩, ⟨rfl, rfl, rfl, rfl, rfl⟩,
        memoryBut_setWord rfl⟩

/-- The MOV forms that write an 8-bit register write a value and move `ip` on. -/
theorem movInto8_next {r : Reg8} {i : Instr} {s t : State} (hi : MovInto8 r i) (hx : exec i s = .next t) :
    ∃ v len, t = (s.setReg8 r v).advance len := by
  obtain ⟨src, rfl⟩ | ⟨src, rfl⟩ | ⟨imm, rfl⟩ := hi
  · rw [exec_movRm8R8, toOutcome_next, movToRM8_ok] at hx
    exact ⟨_, _, hx.2.symm⟩
  · rw [exec_movR8Rm8, toOutcome_next, except_map_eq_ok] at hx
    obtain ⟨v, -, rfl⟩ := hx
    exact ⟨_, _, rfl⟩
  · cases hx
    exact ⟨_, _, rfl⟩

/-- The MOV forms that write a 16-bit register write a value and move `ip` on. -/
theorem movInto16_next {r : Reg16} {i : Instr} {s t : State} (hi : MovInto16 r i) (hx : exec i s = .next t) :
    ∃ v len, t = (s.setReg16 r v).advance len := by
  obtain ⟨src, rfl⟩ | ⟨src, rfl⟩ | ⟨imm, rfl⟩ | ⟨src, rfl⟩ := hi
  · rw [exec_movRm16R16, toOutcome_next, movToRM16_ok] at hx
    exact ⟨_, _, hx.2.symm⟩
  · rw [exec_movR16Rm16, toOutcome_next, except_map_eq_ok] at hx
    obtain ⟨v, -, rfl⟩ := hx
    exact ⟨_, _, rfl⟩
  · cases hx
    exact ⟨_, _, rfl⟩
  · rw [exec_movRm16Sreg, toOutcome_next, movToRM16_ok] at hx
    exact ⟨_, _, hx.2.symm⟩

/-- A far-pointer load writes its two registers and `ip`. -/
theorem loadFar_frame {sr : SReg} {r : Reg16} {m : MemForm} {s t : State} (h : loadFar sr r m s = .ok t) :
    RegsBut s t [r] ∧ SegsBut s t [sr] ∧ t.flags = s.flags ∧ MemorySame s t ∧ OutsideSame s t := by
  obtain ⟨-, rfl⟩ := loadFar_ok.mp h
  exact ⟨regsBut_setReg16 s r _, segsBut_setSeg s sr _, rfl, memorySame_of_mem rfl, rfl, rfl, rfl, rfl, rfl⟩

/-- Settles O37: each form is a register write, and `ip` moves on. -/
theorem moveRegisterFrame : Obligations.MoveRegisterFrame := by
  refine fun i s t hx => ⟨fun r hi => ?_, fun r hi => ?_, fun sr src hi => ?_, fun r m hi => ?_, fun r m hi => ?_⟩
  · obtain ⟨v, len, rfl⟩ := movInto8_next hi hx
    exact ⟨regsButView_setReg8 s r v, segsBut_of_sreg rfl _, rfl, memorySame_of_mem rfl, rfl, rfl, rfl, rfl, rfl⟩
  · obtain ⟨v, len, rfl⟩ := movInto16_next hi hx
    exact ⟨regsBut_setReg16 s r v, segsBut_of_sreg rfl _, rfl, memorySame_of_mem rfl, rfl, rfl, rfl, rfl, rfl⟩
  · subst hi
    rw [exec_movSregRm16, toOutcome_next, except_map_eq_ok] at hx
    obtain ⟨v, -, rfl⟩ := hx
    exact ⟨regsBut_of_gpr rfl _, segsBut_setSeg s sr v, rfl, memorySame_of_mem rfl, rfl, rfl, rfl, rfl, rfl⟩
  · subst hi
    exact loadFar_frame (toOutcome_next.mp hx)
  · subst hi
    exact loadFar_frame (toOutcome_next.mp hx)

/-- A word moved to memory changes nothing but that word and `ip`. -/
theorem movToRM16_mem_frame {m : MemForm} {v : Word} {len : Nat} {s t : State}
    (h : movToRM16 (.mem m) v len s = .ok t) :
    RegsBut s t [] ∧ SegsBut s t [] ∧ t.flags = s.flags ∧ OutsideSame s t ∧ MemoryBut s t (s.operandAddr m) 2 := by
  obtain ⟨-, rfl⟩ := movToRM16_ok.mp h
  exact ⟨regsBut_of_gpr rfl _, segsBut_of_sreg rfl _, rfl, ⟨rfl, rfl, rfl, rfl, rfl⟩, memoryBut_setWord rfl⟩

/-- Settles O38: each form stores its byte or word at the operand's address. -/
theorem moveMemoryFrame : Obligations.MoveMemoryFrame := by
  refine fun m i s t hx => ⟨fun ⟨src, hi⟩ => ?_, fun hi => ?_⟩
  · subst hi
    rw [exec_movRm8R8, toOutcome_next, movToRM8_ok] at hx
    obtain ⟨-, rfl⟩ := hx
    exact ⟨regsBut_of_gpr rfl _, segsBut_of_sreg rfl _, rfl, ⟨rfl, rfl, rfl, rfl, rfl⟩, memoryBut_setByte rfl⟩
  · obtain ⟨src, rfl⟩ | ⟨sr, rfl⟩ := hi <;> exact movToRM16_mem_frame (toOutcome_next.mp hx)

/-! ### The stack -/

theorem slotBelow_one (s : State) : slotBelow s 1 = s.stackAddr (s.reg16 .sp - 2) := rfl

/-- The stack slots of a state whose SP has moved down by one word. -/
theorem slotBelow_after_push (s : State) (m : Memory) (k : Nat) :
    slotBelow ((s.setReg16 .sp (s.reg16 .sp - 2)).setMem m) k = slotBelow s (k + 1) := by
  have hsp : s.reg16 .sp - 2 - BitVec.ofNat 16 (2 * k) = s.reg16 .sp - BitVec.ofNat 16 (2 * (k + 1)) := by
    rw [show 2 * (k + 1) = 2 + 2 * k by omega, BitVec.ofNat_add, ← BitVec.sub_sub]; rfl
  exact congrArg s.stackAddr hsp

/-- A push changes only SP, `ip` and the word below the stack top. -/
theorem pushValue_frame {v : Word} {s t : State} (h : pushValue v s = .ok t) :
    RegsBut s t [.sp] ∧ SegsBut s t [] ∧ t.flags = s.flags ∧ OutsideSame s t ∧ MemoryBut s t (slotBelow s 1) 2 := by
  obtain ⟨-, rfl⟩ := pushValue_ok.mp h
  exact ⟨regsBut_setReg16 s .sp _, segsBut_of_sreg rfl _, rfl, ⟨rfl, rfl, rfl, rfl, rfl⟩, memoryBut_setWord rfl⟩

/-- A bulk push changes no byte outside the words it stores below the stack top. -/
theorem byte_pushAll {vs : List Word} {s t : State} (h : s.pushAll vs = .ok t) {a : Nat}
    (ha : ∀ k, 1 ≤ k → k ≤ vs.length → a < slotBelow s k ∨ slotBelow s k + 2 ≤ a) :
    Memory.byte t.mem a = Memory.byte s.mem a := by
  induction vs generalizing s with
  | nil => cases h; rfl
  | cons v vs ih =>
    obtain ⟨u, hpush, hrest⟩ := State.pushAll_cons_ok.mp h
    rw [State.push_eq, checked_eq_ok] at hpush
    obtain ⟨-, rfl⟩ := hpush
    rw [ih hrest fun k h1 hk => by rw [slotBelow_after_push]; exact ha (k + 1) (by omega) (by simpa using hk)]
    have h1 := ha 1 (Nat.le_refl 1) (by simp)
    rw [slotBelow_one] at h1
    exact Memory.byte_setWord_ne _ _ (by omega) (by omega)

/-- Settles O48: a push stores one word below the stack top, PUSHA its eight. -/
theorem pushFrame : Obligations.PushFrame := by
  refine fun i s t hx => ⟨fun hi => ?_, fun hi => ?_⟩
  · obtain ⟨r, rfl⟩ | ⟨sr, rfl⟩ := hi
    · exact pushValue_frame (toOutcome_next.mp hx)
    · exact pushValue_frame (toOutcome_next.mp ((exec_pushSeg ..).symm.trans hx))
  · subst hi
    obtain ⟨u, hu, rfl⟩ := except_map_eq_ok.mp (toOutcome_next.mp hx)
    have hmem : ∀ a, (∀ k, 1 ≤ k → k ≤ 8 → a < slotBelow s k ∨ slotBelow s k + 2 ≤ a) →
        Memory.byte u.mem a = Memory.byte s.mem a := fun a ha => byte_pushAll hu ha
    rw [State.pushAll_ok hu]
    exact ⟨regsBut_setReg16 s .sp _, segsBut_of_sreg rfl _, rfl, ⟨rfl, rfl, rfl, rfl, rfl⟩, hmem⟩

/-- Settles O49: what a pop or a return answers is a state with new registers and `ip`. -/
theorem popFrame : Obligations.PopFrame := by
  refine fun i s t hx => ⟨fun r hi => ?_, fun sr hi => ?_, fun hi => ?_, fun hi => ?_⟩
  · subst hi
    obtain ⟨-, rfl⟩ := popTo_ok.mp (toOutcome_next.mp hx)
    refine ⟨fun q hq => ?_, segsBut_of_sreg rfl _, rfl, memorySame_of_mem rfl, rfl, rfl, rfl, rfl, rfl⟩
    simp only [List.mem_cons, List.not_mem_nil, or_false, not_or] at hq
    exact (Gpr.get_set_ne _ _ hq.1).trans (Gpr.get_set_ne _ _ hq.2)
  · rw [exec_popSeg hi, toOutcome_next, popTo_ok] at hx
    obtain ⟨-, rfl⟩ := hx
    exact ⟨regsBut_setReg16 s .sp _, segsBut_setSeg s sr _, rfl, memorySame_of_mem rfl, rfl, rfl, rfl, rfl, rfl⟩
  · subst hi
    obtain ⟨g, rfl⟩ := popAllRegs_ok (toOutcome_next.mp hx)
    exact ⟨segsBut_of_sreg rfl _, rfl, memorySame_of_mem rfl, rfl, rfl, rfl, rfl, rfl⟩
  · obtain rfl | ⟨n, rfl⟩ := hi
    · obtain ⟨p, hp, rfl⟩ := except_map_eq_ok.mp (toOutcome_next.mp hx)
      obtain ⟨-, rfl⟩ := pop_ok.mp hp
      exact ⟨regsBut_setReg16 s .sp _, segsBut_of_sreg rfl _, rfl, memorySame_of_mem rfl, rfl, rfl, rfl, rfl, rfl⟩
    · obtain ⟨p, hp, rfl⟩ := except_map_eq_ok.mp (toOutcome_next.mp hx)
      obtain ⟨-, rfl⟩ := pop_ok.mp hp
      refine ⟨fun q hq => ?_, segsBut_of_sreg rfl _, rfl, memorySame_of_mem rfl, rfl, rfl, rfl, rfl, rfl⟩
      have hne : q ≠ .sp := by simpa using hq
      exact (Gpr.get_set_ne _ _ hne).trans (Gpr.get_set_ne _ _ hne)

end Sys2Proof.Proofs

namespace Sys2Proof.Proofs

open Sys2Proof.Machine Sys2Proof.Statements

/-! ## Scope: what every instruction keeps -/

/-- What an instruction other than INT keeps: everything outside the registers, memory, `ip` and the five computed
flags, and the canonical form of memory. -/
structure InstrKeeps (s t : State) : Prop where
  outside : OutsideSame s t
  unused : UnusedFlagsSame s t
  memWf : Memory.wf s.mem = true → Memory.wf t.mem = true

/-- An instruction that moves `ip` on by `len` and keeps what every instruction keeps. -/
structure InstrAdvances (s t : State) (len : Nat) : Prop extends InstrKeeps s t where
  ip : t.ip = s.ip + len

theorem InstrKeeps.refl (s : State) : InstrKeeps s s := ⟨⟨rfl, rfl, rfl, rfl, rfl⟩, ⟨rfl, rfl, rfl, rfl⟩, id⟩

theorem InstrKeeps.setReg8 (s : State) (r : Reg8) (v : Byte) : InstrKeeps s (s.setReg8 r v) :=
  ⟨⟨rfl, rfl, rfl, rfl, rfl⟩, ⟨rfl, rfl, rfl, rfl⟩, id⟩

theorem InstrKeeps.setReg16 (s : State) (r : Reg16) (v : Word) : InstrKeeps s (s.setReg16 r v) :=
  ⟨⟨rfl, rfl, rfl, rfl, rfl⟩, ⟨rfl, rfl, rfl, rfl⟩, id⟩

theorem InstrKeeps.store8 {s : State} {rm : RM Reg8} (h : fits8 s rm) (v : Byte) : InstrKeeps s (store8 s rm v) := by
  cases rm with
  | reg r => exact .setReg8 s r v
  | mem m => exact ⟨⟨rfl, rfl, rfl, rfl, rfl⟩, ⟨rfl, rfl, rfl, rfl⟩, fun hw => Memory.wf_setByte v hw h⟩

theorem InstrKeeps.store16 {s : State} {rm : RM Reg16} (h : fits16 s rm) (v : Word) :
    InstrKeeps s (store16 s rm v) := by
  cases rm with
  | reg r => exact .setReg16 s r v
  | mem m => exact ⟨⟨rfl, rfl, rfl, rfl, rfl⟩, ⟨rfl, rfl, rfl, rfl⟩, fun hw => Memory.wf_setWord v hw h⟩

@[simp] theorem store8_ip (s : State) (rm : RM Reg8) (v : Byte) : (store8 s rm v).ip = s.ip := by cases rm <;> rfl

@[simp] theorem store16_ip (s : State) (rm : RM Reg16) (v : Word) : (store16 s rm v).ip = s.ip := by cases rm <;> rfl

/-! ### The shared operations -/

/-- An ALU operation keeps what its write keeps. -/
theorem aluEffect_advances {n : Nat} {s : State} {write : BitVec n → State} (op : AluOp) (a b : BitVec n) (len : Nat)
    (hw : ∀ v, InstrKeeps s (write v)) (hip : ∀ v, (write v).ip = s.ip) :
    InstrAdvances s (aluEffect op a b len write s) len := by
  by_cases hop : op = .cmp
  · subst hop
    exact { InstrKeeps.refl s with ip := rfl }
  · rw [aluEffect_of_ne_cmp hop]
    obtain ⟨outside, unused, memWf⟩ := hw (aluResult op a b s.flags.CF)
    exact { outside, unused, memWf, ip := congrArg (· + (len : Int)) (hip _) }

theorem aluToRM8_advances {op : AluOp} {dst : RM Reg8} {src : Byte} {len : Nat} {s t : State}
    (h : aluToRM8 op dst src len s = .ok t) : InstrAdvances s t len := by
  obtain ⟨hfit, rfl⟩ := aluToRM8_ok.mp h
  exact aluEffect_advances op _ _ len (.store8 hfit) (store8_ip s dst)

theorem aluToRM16_advances {op : AluOp} {dst : RM Reg16} {src : Word} {len : Nat} {s t : State}
    (h : aluToRM16 op dst src len s = .ok t) : InstrAdvances s t len := by
  obtain ⟨hfit, rfl⟩ := aluToRM16_ok.mp h
  exact aluEffect_advances op _ _ len (.store16 hfit) (store16_ip s dst)

theorem aluToReg8_advances {op : AluOp} {dst : Reg8} {src : RM Reg8} {s t : State}
    (h : aluToReg8 op dst src s = .ok t) : InstrAdvances s t src.len := by
  obtain ⟨-, rfl⟩ := aluToReg8_ok.mp h
  exact aluEffect_advances op _ _ _ (.setReg8 s dst) fun _ => rfl

theorem aluToReg16_advances {op : AluOp} {dst : Reg16} {src : RM Reg16} {s t : State}
    (h : aluToReg16 op dst src s = .ok t) : InstrAdvances s t src.len := by
  obtain ⟨-, rfl⟩ := aluToReg16_ok.mp h
  exact aluEffect_advances op _ _ _ (.setReg16 s dst) fun _ => rfl

theorem movToRM8_advances {dst : RM Reg8} {src : Byte} {len : Nat} {s t : State}
    (h : movToRM8 dst src len s = .ok t) : InstrAdvances s t len := by
  obtain ⟨hfit, rfl⟩ := movToRM8_ok.mp h
  obtain ⟨outside, unused, memWf⟩ := InstrKeeps.store8 hfit src
  exact { outside, unused, memWf, ip := congrArg (· + (len : Int)) (store8_ip s dst src) }

theorem movToRM16_advances {dst : RM Reg16} {src : Word} {len : Nat} {s t : State}
    (h : movToRM16 dst src len s = .ok t) : InstrAdvances s t len := by
  obtain ⟨hfit, rfl⟩ := movToRM16_ok.mp h
  obtain ⟨outside, unused, memWf⟩ := InstrKeeps.store16 hfit src
  exact { outside, unused, memWf, ip := congrArg (· + (len : Int)) (store16_ip s dst src) }

/-- A state in which only registers and `ip` have changed. -/
theorem instrAdvances_of_registers (s : State) (g : Gpr) (r : Segs) (len : Nat) :
    InstrAdvances s ({ s with gpr := g, sreg := r }.advance len) len :=
  { InstrKeeps.refl s with ip := rfl }

theorem loadFar_advances {sr : SReg} {dst : Reg16} {m : MemForm} {s t : State} (h : loadFar sr dst m s = .ok t) :
    InstrAdvances s t m.len := by
  obtain ⟨-, rfl⟩ := loadFar_ok.mp h
  exact instrAdvances_of_registers s _ _ m.len

theorem pushValue_advances {v : Word} {s t : State} (h : pushValue v s = .ok t) : InstrAdvances s t 1 := by
  obtain ⟨hfit, rfl⟩ := pushValue_ok.mp h
  exact { InstrKeeps.refl s with ip := rfl, memWf := fun hw => Memory.wf_setWord v hw hfit }

theorem wf_pushAll {vs : List Word} {s t : State} (h : s.pushAll vs = .ok t) (hw : Memory.wf s.mem = true) :
    Memory.wf t.mem = true := by
  induction vs generalizing s with
  | nil => cases h; exact hw
  | cons v vs ih =>
    obtain ⟨u, hpush, hrest⟩ := State.pushAll_cons_ok.mp h
    rw [State.push_eq, checked_eq_ok] at hpush
    obtain ⟨hfit, rfl⟩ := hpush
    exact ih hrest (Memory.wf_setWord v hw hfit)

/-- RET and RET imm16 keep what every instruction keeps; they set `ip`. -/
theorem pop_map_keeps {s t : State} {write : Word → State → State}
    (hwrite : ∀ v u, InstrKeeps u (write v u)) (h : (s.pop.map fun p => write p.1 p.2) = .ok t) : InstrKeeps s t := by
  obtain ⟨p, hp, rfl⟩ := except_map_eq_ok.mp h
  obtain ⟨-, rfl⟩ := pop_ok.mp hp
  obtain ⟨outside, unused, memWf⟩ :=
    hwrite (Memory.word s.mem (s.stackAddr (s.reg16 .sp))) (s.setReg16 .sp (s.reg16 .sp + 2))
  exact ⟨outside, unused, memWf⟩

/-! ### Every instruction -/

open Laws.EncodingLength (formatLength)

theorem advances_encode {i : Instr} {s t : State} {len : Nat} {Q : Prop} (hl : formatLength i = len)
    (h : InstrAdvances s t len) : InstrAdvances s t (encode i).length ∨ Q :=
  .inl ((encodingLength i).1.trans hl ▸ h)

/-- Everything an instruction that completes can do: the jumps and the returns set `ip`, INT enters a service, and every
other instruction moves `ip` on by the length of its encoding (R44). -/
theorem exec_next_cases {i : Instr} {s t : State} (hx : exec i s = .next t) :
    InstrAdvances s t (encode i).length ∨ (sequential i = false ∧ InstrKeeps s t) ∨
      ∃ v svc, i = .int v ∧ IntTable.lookup s.intTable v = some svc ∧ t = s.enterService svc := by
  cases i using byFamily with
  | aluRm8R8 op dst src =>
    rw [exec_aluRm8R8, toOutcome_next] at hx
    exact advances_encode (by cases op <;> rfl) (aluToRM8_advances hx)
  | aluRm16R16 op dst src =>
    rw [exec_aluRm16R16, toOutcome_next] at hx
    exact advances_encode (by cases op <;> rfl) (aluToRM16_advances hx)
  | aluR8Rm8 op dst src =>
    rw [exec_aluR8Rm8, toOutcome_next] at hx
    exact advances_encode (by cases op <;> rfl) (aluToReg8_advances hx)
  | aluR16Rm16 op dst src =>
    rw [exec_aluR16Rm16, toOutcome_next] at hx
    exact advances_encode (by cases op <;> rfl) (aluToReg16_advances hx)
  | aluAlImm8 op imm =>
    rw [exec_aluAlImm8, toOutcome_next] at hx
    exact advances_encode (by cases op <;> rfl) (aluToRM8_advances hx)
  | aluAxImm16 op imm =>
    rw [exec_aluAxImm16, toOutcome_next] at hx
    exact advances_encode (by cases op <;> rfl) (aluToRM16_advances hx)
  | aluRm8Imm8 op dst imm =>
    rw [exec_aluRm8Imm8, toOutcome_next] at hx
    exact advances_encode (by cases op <;> rfl) (aluToRM8_advances hx)
  | aluRm16Imm16 op dst imm =>
    rw [exec_aluRm16Imm16, toOutcome_next] at hx
    exact advances_encode (by cases op <;> rfl) (aluToRM16_advances hx)
  | aluRm16SImm8 op dst imm =>
    rw [exec_aluRm16SImm8, toOutcome_next] at hx
    exact advances_encode (by cases op <;> rfl) (aluToRM16_advances hx)
  | movRm8R8 dst src =>
    rw [exec_movRm8R8, toOutcome_next] at hx
    exact advances_encode rfl (movToRM8_advances hx)
  | movRm16R16 dst src =>
    rw [exec_movRm16R16, toOutcome_next] at hx
    exact advances_encode rfl (movToRM16_advances hx)
  | movR8Rm8 dst src =>
    rw [exec_movR8Rm8, toOutcome_next, except_map_eq_ok] at hx
    obtain ⟨v, -, rfl⟩ := hx
    exact advances_encode rfl (instrAdvances_of_registers s _ _ _)
  | movR16Rm16 dst src =>
    rw [exec_movR16Rm16, toOutcome_next, except_map_eq_ok] at hx
    obtain ⟨v, -, rfl⟩ := hx
    exact advances_encode rfl (instrAdvances_of_registers s _ _ _)
  | movRm16Sreg dst src =>
    rw [exec_movRm16Sreg, toOutcome_next] at hx
    exact advances_encode rfl (movToRM16_advances hx)
  | movSregRm16 dst src =>
    rw [exec_movSregRm16, toOutcome_next, except_map_eq_ok] at hx
    obtain ⟨v, -, rfl⟩ := hx
    exact advances_encode rfl (instrAdvances_of_registers s _ _ _)
  | movR8Imm8 dst imm =>
    cases hx
    exact advances_encode rfl (instrAdvances_of_registers s _ _ 2)
  | movR16Imm16 dst imm =>
    cases hx
    exact advances_encode rfl (instrAdvances_of_registers s _ _ 3)
  | les dst src => exact advances_encode rfl (loadFar_advances (toOutcome_next.mp hx))
  | lds dst src => exact advances_encode rfl (loadFar_advances (toOutcome_next.mp hx))
  | pushR16 src => exact advances_encode rfl (pushValue_advances (toOutcome_next.mp hx))
  | pushSeg sr =>
    rw [exec_pushSeg, toOutcome_next] at hx
    exact advances_encode (by cases sr <;> rfl) (pushValue_advances hx)
  | popR16 dst =>
    obtain ⟨-, rfl⟩ := popTo_ok.mp (toOutcome_next.mp hx)
    exact advances_encode rfl (instrAdvances_of_registers s _ _ 1)
  | popSeg sr i hi =>
    rw [exec_popSeg hi, toOutcome_next, popTo_ok] at hx
    obtain ⟨-, rfl⟩ := hx
    exact advances_encode (by cases sr <;> cases hi <;> rfl) (instrAdvances_of_registers s _ _ 1)
  | pusha =>
    obtain ⟨u, hu, rfl⟩ := except_map_eq_ok.mp (toOutcome_next.mp hx)
    have hw := wf_pushAll hu
    rw [State.pushAll_ok hu]
    exact advances_encode rfl { InstrKeeps.refl s with ip := rfl, memWf := hw }
  | popa =>
    obtain ⟨g, rfl⟩ := popAllRegs_ok (toOutcome_next.mp hx)
    exact advances_encode rfl (instrAdvances_of_registers s g s.sreg 1)
  | ret =>
    refine .inr (.inl ⟨rfl, pop_map_keeps (write := fun v u => u.setIp v.toNat) (fun v u => ?_)
      (toOutcome_next.mp hx)⟩)
    exact ⟨⟨rfl, rfl, rfl, rfl, rfl⟩, ⟨rfl, rfl, rfl, rfl⟩, id⟩
  | retImm16 imm =>
    refine .inr (.inl ⟨rfl, pop_map_keeps
      (write := fun v u => (u.setReg16 .sp (u.reg16 .sp + imm)).setIp v.toNat) (fun v u => ?_)
      (toOutcome_next.mp hx)⟩)
    exact ⟨⟨rfl, rfl, rfl, rfl, rfl⟩, ⟨rfl, rfl, rfl, rfl⟩, id⟩
  | jcc c disp =>
    rw [exec_jcc, jumpIf_eq] at hx
    cases hx
    exact .inr (.inl ⟨by cases c <;> rfl, ⟨rfl, rfl, rfl, rfl, rfl⟩, ⟨rfl, rfl, rfl, rfl⟩, id⟩)
  | int v =>
    rw [exec_int, execInt] at hx
    split at hx
    · cases hx
    · cases hx
      exact .inr (.inr ⟨v, _, rfl, ‹_›, rfl⟩)

/-- Settles O16: an instruction that sets `ip` or enters a service is not sequential. -/
theorem sequentialInstructionsAdvanceIp : Obligations.SequentialInstructionsAdvanceIp := by
  intro i s t hseq hx
  obtain h | ⟨hno, -⟩ | ⟨v, svc, rfl, -, -⟩ := exec_next_cases hx
  · exact h.ip
  · exact absurd (hno.symm.trans hseq) (by decide)
  · exact absurd hseq Bool.false_ne_true

end Sys2Proof.Proofs

namespace Sys2Proof.Proofs

open Sys2Proof.Machine Sys2Proof.Statements

/-! ## Scope: CS has no effect of its own

Every operation on the state with another CS gives the answer it gives on the state itself, with that CS put in. The
instructions are compared through the shared operations they are made of. -/

theorem seg_setCs {sr : SReg} (h : sr ≠ .cs) (s : State) (v : Word) : (s.setSeg .cs v).seg sr = s.seg sr :=
  Segs.get_set_ne s.sreg v h

theorem operandSeg_ne_cs (m : MemForm) : operandSeg m ≠ .cs := by
  have seg (b : Base) : (if Base.hasBp b then SReg.ss else .ds) ≠ .cs := by split <;> decide
  cases m with
  | direct a => exact SReg.noConfusion
  | base b => exact seg b
  | disp8 b d => exact seg b
  | disp16 b d => exact seg b

@[simp] theorem operandAddr_setCs (s : State) (v : Word) (m : MemForm) :
    (s.setSeg .cs v).operandAddr m = s.operandAddr m := by
  rw [State.operandAddr, seg_setCs (operandSeg_ne_cs m)]; rfl

@[simp] theorem readRM8_setCs (s : State) (v : Word) (rm : RM Reg8) : (s.setSeg .cs v).readRM8 rm = s.readRM8 rm := by
  cases rm with
  | reg r => rfl
  | mem m => rw [State.readRM8_mem, operandAddr_setCs]; rfl

@[simp] theorem readRM16_setCs (s : State) (v : Word) (rm : RM Reg16) :
    (s.setSeg .cs v).readRM16 rm = s.readRM16 rm := by
  cases rm with
  | reg r => rfl
  | mem m => rw [State.readRM16_mem, operandAddr_setCs]; rfl

theorem write8_setCs (s : State) (v : Word) (p : Nat) (b : Byte) :
    (s.setSeg .cs v).write8 p b = (s.write8 p b).map (·.setSeg .cs v) := by
  rw [State.write8_eq, State.write8_eq]; split <;> rfl

theorem write16_setCs (s : State) (v : Word) (p : Nat) (w : Word) :
    (s.setSeg .cs v).write16 p w = (s.write16 p w).map (·.setSeg .cs v) := by
  rw [State.write16_eq, State.write16_eq]; split <;> rfl

theorem writeRM8_setCs (s : State) (v : Word) (rm : RM Reg8) (b : Byte) :
    (s.setSeg .cs v).writeRM8 rm b = (s.writeRM8 rm b).map (·.setSeg .cs v) := by
  cases rm with
  | reg r => rfl
  | mem m => rw [State.writeRM8, operandAddr_setCs]; exact write8_setCs s v _ b

theorem writeRM16_setCs (s : State) (v : Word) (rm : RM Reg16) (w : Word) :
    (s.setSeg .cs v).writeRM16 rm w = (s.writeRM16 rm w).map (·.setSeg .cs v) := by
  cases rm with
  | reg r => rfl
  | mem m => rw [State.writeRM16, operandAddr_setCs]; exact write16_setCs s v _ w

theorem setSeg_setCs {sr : SReg} (h : sr ≠ .cs) (s : State) (v w : Word) :
    (s.setSeg .cs v).setSeg sr w = (s.setSeg sr w).setSeg .cs v := by
  cases sr with
  | cs => exact absurd rfl h
  | es => rfl
  | ss => rfl
  | ds => rfl

/-- The rm-destination executor, when its write leaves CS alone. -/
theorem execToRM_setCs {n : Nat} (s : State) (v : Word) (dst : Except Fault (BitVec n)) (src : BitVec n)
    {write write' : BitVec n → Except Fault State} (hw : ∀ b, write' b = (write b).map (·.setSeg .cs v))
    (res : BitVec n → BitVec n → BitVec n) (fl : BitVec n → BitVec n → Option StatusFlags) (commit : Bool) (len : Nat) :
    (s.setSeg .cs v).execToRM dst src write' res fl commit len =
      (s.execToRM dst src write res fl commit len).map (·.setSeg .cs v) := by
  cases dst with
  | error f => rfl
  | ok d =>
    have finish (u : State) : (((u.setSeg .cs v).setStatus? (fl d src)).advance len) =
        ((u.setStatus? (fl d src)).advance len).setSeg .cs v := by cases fl d src <;> rfl
    cases commit with
    | false => exact congrArg Except.ok (finish s)
    | true =>
      simp only [State.execToRM, bind, Except.bind, if_true, hw, pure, Except.pure]
      cases write (res d src) with
      | error f => rfl
      | ok u => exact congrArg Except.ok (finish u)

theorem aluToRM8_setCs (op : AluOp) (dst : RM Reg8) (src : Byte) (len : Nat) (s : State) (v : Word) :
    aluToRM8 op dst src len (s.setSeg .cs v) = (aluToRM8 op dst src len s).map (·.setSeg .cs v) := by
  rw [aluToRM8, readRM8_setCs]; exact execToRM_setCs s v _ src (writeRM8_setCs s v dst) ..

theorem aluToRM16_setCs (op : AluOp) (dst : RM Reg16) (src : Word) (len : Nat) (s : State) (v : Word) :
    aluToRM16 op dst src len (s.setSeg .cs v) = (aluToRM16 op dst src len s).map (·.setSeg .cs v) := by
  rw [aluToRM16, readRM16_setCs]; exact execToRM_setCs s v _ src (writeRM16_setCs s v dst) ..

theorem movToRM8_setCs (dst : RM Reg8) (src : Byte) (len : Nat) (s : State) (v : Word) :
    movToRM8 dst src len (s.setSeg .cs v) = (movToRM8 dst src len s).map (·.setSeg .cs v) := by
  rw [movToRM8, readRM8_setCs]; exact execToRM_setCs s v _ src (writeRM8_setCs s v dst) ..

theorem movToRM16_setCs (dst : RM Reg16) (src : Word) (len : Nat) (s : State) (v : Word) :
    movToRM16 dst src len (s.setSeg .cs v) = (movToRM16 dst src len s).map (·.setSeg .cs v) := by
  rw [movToRM16, readRM16_setCs]; exact execToRM_setCs s v _ src (writeRM16_setCs s v dst) ..

theorem aluToReg8_setCs (op : AluOp) (dst : Reg8) (src : RM Reg8) (s : State) (v : Word) :
    aluToReg8 op dst src (s.setSeg .cs v) = (aluToReg8 op dst src s).map (·.setSeg .cs v) := by
  rw [aluToReg8, aluToReg8, readRM8_setCs, execToReg_alu, execToReg_alu]
  cases s.readRM8 src <;> cases op <;> rfl

theorem aluToReg16_setCs (op : AluOp) (dst : Reg16) (src : RM Reg16) (s : State) (v : Word) :
    aluToReg16 op dst src (s.setSeg .cs v) = (aluToReg16 op dst src s).map (·.setSeg .cs v) := by
  rw [aluToReg16, aluToReg16, readRM16_setCs, execToReg_alu, execToReg_alu]
  cases s.readRM16 src <;> cases op <;> rfl

theorem loadFar_setCs {sr : SReg} (h : sr ≠ .cs) (dst : Reg16) (m : MemForm) (s : State) (v : Word) :
    loadFar sr dst m (s.setSeg .cs v) = (loadFar sr dst m s).map (·.setSeg .cs v) := by
  rw [loadFar_eq, loadFar_eq, operandAddr_setCs]
  split
  · exact congrArg (fun u : State => Except.ok (u.advance m.len)) (setSeg_setCs h (s.setReg16 dst _) v _)
  · rfl

theorem push_setCs (w : Word) (s : State) (v : Word) :
    (s.setSeg .cs v).push w = (s.push w).map (·.setSeg .cs v) :=
  write16_setCs (s.setReg16 .sp (s.reg16 .sp - 2)) v _ w

theorem pushValue_setCs (w : Word) (s : State) (v : Word) :
    pushValue w (s.setSeg .cs v) = (pushValue w s).map (·.setSeg .cs v) := by
  rw [pushValue, pushValue, push_setCs]
  cases s.push w <;> rfl

theorem pushAll_setCs (ws : List Word) (s : State) (v : Word) :
    (s.setSeg .cs v).pushAll ws = (s.pushAll ws).map (·.setSeg .cs v) := by
  induction ws generalizing s with
  | nil => rfl
  | cons w ws ih =>
    rw [State.pushAll, State.pushAll, push_setCs]
    cases s.push w with
    | error f => rfl
    | ok u => exact ih u

theorem pop_setCs (s : State) (v : Word) :
    (s.setSeg .cs v).pop = s.pop.map fun p => (p.1, p.2.setSeg .cs v) := by
  have haddr : (s.setSeg .cs v).stackAddr ((s.setSeg .cs v).reg16 .sp) = s.stackAddr (s.reg16 .sp) := rfl
  rw [State.pop_eq, State.pop_eq, haddr]
  split <;> rfl

theorem popTo_setCs {write : State → Word → State}
    (hw : ∀ u v w, write (u.setSeg .cs v) w = (write u w).setSeg .cs v) (s : State) (v : Word) :
    popTo write (s.setSeg .cs v) = (popTo write s).map (·.setSeg .cs v) := by
  rw [popTo, popTo, pop_setCs]
  cases s.pop with
  | error f => rfl
  | ok p => exact congrArg (fun u : State => Except.ok (u.advance 1)) (hw p.2 v p.1)

theorem popAllRegs_setCs (s : State) (v : Word) :
    popAllRegs (s.setSeg .cs v) = (popAllRegs s).map (·.setSeg .cs v) := by
  have slot (k : Nat) : (s.setSeg .cs v).stackSlot ((s.setSeg .cs v).reg16 .sp) k = s.stackSlot (s.reg16 .sp) k := rfl
  simp only [popAllRegs, slot, bind, Except.bind, pure, Except.pure]
  repeat (split; · rfl)
  rfl

/-- An answer with another CS is the outcome with another CS. -/
theorem mapNext_toOutcome (f : State → State) (r : Except Fault State) :
    mapNext f (toOutcome r) = toOutcome (r.map f) := by cases r <;> rfl

/-- An instruction that does not copy CS does the same for every CS and leaves it in place. -/
theorem exec_setCs {i : Instr} (hpush : i ≠ .pushCs) (hfrom : ∀ dst, i ≠ .movRm16Sreg dst .cs)
    (hto : ∀ src, i ≠ .movSregRm16 .cs src) (s : State) (v : Word) :
    exec i (s.setSeg .cs v) = mapNext (·.setSeg .cs v) (exec i s) := by
  cases i using byFamily with
  | aluRm8R8 op dst src =>
    rw [exec_aluRm8R8, exec_aluRm8R8, mapNext_toOutcome, ← aluToRM8_setCs]; rfl
  | aluRm16R16 op dst src =>
    rw [exec_aluRm16R16, exec_aluRm16R16, mapNext_toOutcome, ← aluToRM16_setCs]; rfl
  | aluR8Rm8 op dst src => rw [exec_aluR8Rm8, exec_aluR8Rm8, mapNext_toOutcome, aluToReg8_setCs]
  | aluR16Rm16 op dst src => rw [exec_aluR16Rm16, exec_aluR16Rm16, mapNext_toOutcome, aluToReg16_setCs]
  | aluAlImm8 op imm => rw [exec_aluAlImm8, exec_aluAlImm8, mapNext_toOutcome, aluToRM8_setCs]
  | aluAxImm16 op imm => rw [exec_aluAxImm16, exec_aluAxImm16, mapNext_toOutcome, aluToRM16_setCs]
  | aluRm8Imm8 op dst imm => rw [exec_aluRm8Imm8, exec_aluRm8Imm8, mapNext_toOutcome, aluToRM8_setCs]
  | aluRm16Imm16 op dst imm => rw [exec_aluRm16Imm16, exec_aluRm16Imm16, mapNext_toOutcome, aluToRM16_setCs]
  | aluRm16SImm8 op dst imm => rw [exec_aluRm16SImm8, exec_aluRm16SImm8, mapNext_toOutcome, aluToRM16_setCs]
  | movRm8R8 dst src => rw [exec_movRm8R8, exec_movRm8R8, mapNext_toOutcome, ← movToRM8_setCs]; rfl
  | movRm16R16 dst src => rw [exec_movRm16R16, exec_movRm16R16, mapNext_toOutcome, ← movToRM16_setCs]; rfl
  | movR8Rm8 dst src =>
    rw [exec_movR8Rm8, exec_movR8Rm8, mapNext_toOutcome, readRM8_setCs]
    cases s.readRM8 src <;> rfl
  | movR16Rm16 dst src =>
    rw [exec_movR16Rm16, exec_movR16Rm16, mapNext_toOutcome, readRM16_setCs]
    cases s.readRM16 src <;> rfl
  | movRm16Sreg dst src =>
    have hne : src ≠ .cs := fun e => hfrom dst (by rw [e])
    rw [exec_movRm16Sreg, exec_movRm16Sreg, mapNext_toOutcome, seg_setCs hne, movToRM16_setCs]
  | movSregRm16 dst src =>
    have hne : dst ≠ .cs := fun e => hto src (by rw [e])
    rw [exec_movSregRm16, exec_movSregRm16, mapNext_toOutcome, readRM16_setCs]
    cases s.readRM16 src with
    | error f => rfl
    | ok w =>
      exact congrArg (fun u : State => Host.Outcome.next (u.advance src.len)) (setSeg_setCs hne s v w)
  | movR8Imm8 dst imm => rfl
  | movR16Imm16 dst imm => rfl
  | les dst src => rw [exec_les, exec_les, mapNext_toOutcome, loadFar_setCs (by decide)]
  | lds dst src => rw [exec_lds, exec_lds, mapNext_toOutcome, loadFar_setCs (by decide)]
  | pushR16 src => rw [exec_pushR16, exec_pushR16, mapNext_toOutcome, ← pushValue_setCs]; rfl
  | pushSeg sr =>
    have hne : sr ≠ .cs := fun e => hpush (by rw [e]; rfl)
    rw [exec_pushSeg, exec_pushSeg, mapNext_toOutcome, seg_setCs hne, pushValue_setCs]
  | popR16 dst => rw [exec_popR16, exec_popR16, mapNext_toOutcome, popTo_setCs fun _ _ _ => rfl]
  | popSeg sr i hi =>
    have hne : sr ≠ .cs := fun e => by rw [e] at hi; cases hi
    rw [exec_popSeg hi, exec_popSeg hi, mapNext_toOutcome, popTo_setCs fun _ _ _ => setSeg_setCs hne ..]
  | pusha =>
    rw [exec_pusha, exec_pusha, mapNext_toOutcome, State.setSeg_gpr, pushAll_setCs]
    cases s.pushAll s.gpr.inOrder <;> rfl
  | popa => rw [exec_popa, exec_popa, mapNext_toOutcome, popAllRegs_setCs]
  | ret =>
    rw [exec_ret, exec_ret, mapNext_toOutcome, pop_setCs]
    cases s.pop <;> rfl
  | retImm16 imm =>
    rw [exec_retImm16, exec_retImm16, mapNext_toOutcome, pop_setCs]
    cases s.pop <;> rfl
  | jcc c disp =>
    rw [exec_jcc, exec_jcc, jumpIf_eq, jumpIf_eq]; rfl
  | int w =>
    rw [exec_int, exec_int, execInt, execInt, State.setSeg_intTable]
    cases IntTable.lookup s.intTable w <;> rfl

/-- Settles O18: fetch reads `ip` and memory; `exec_setCs` is every instruction that does not copy CS; a move to CS
replaces the value it had. -/
theorem csHasNoOtherEffect : Obligations.CsHasNoOtherEffect := by
  refine fun s v => ⟨rfl, fun i hpush hfrom hto => exec_setCs hpush hfrom hto s v, fun src => ?_⟩
  rw [exec_movSregRm16, exec_movSregRm16, readRM16_setCs]
  rfl

end Sys2Proof.Proofs

namespace Sys2Proof.Proofs

open Sys2Proof.Machine Sys2Proof.Statements

/-! ## Scope: the turns of the host and of a service -/

/-- What a call that the host may make at any time keeps: only `Execute` adds a run. -/
structure CallKeeps (s t : State) : Prop where
  mem : t.mem = s.mem
  flags : t.flags = s.flags
  intTable : t.intTable = s.intTable
  sink : t.sink = s.sink
  frames : t.frames = s.frames ∨ ∃ e, t.frames = .run e :: s.frames

theorem commonCall_keeps {c : HostCall} {s t : State} (h : s.commonCall c = some (.ok t)) : CallKeeps s t := by
  cases c with
  | getReg8 r => cases h; exact ⟨rfl, rfl, rfl, rfl, .inl rfl⟩
  | getReg16 r => cases h; exact ⟨rfl, rfl, rfl, rfl, .inl rfl⟩
  | getSeg r => cases h; exact ⟨rfl, rfl, rfl, rfl, .inl rfl⟩
  | setReg8 r v => cases h; exact ⟨rfl, rfl, rfl, rfl, .inl rfl⟩
  | setReg16 r v => cases h; exact ⟨rfl, rfl, rfl, rfl, .inl rfl⟩
  | setSeg r v => cases h; exact ⟨rfl, rfl, rfl, rfl, .inl rfl⟩
  | getInDs off =>
    obtain ⟨v, -, rfl⟩ := except_map_eq_ok.mp (Option.some.inj h)
    exact ⟨rfl, rfl, rfl, rfl, .inl rfl⟩
  | execute a b => cases h; exact ⟨rfl, rfl, rfl, rfl, .inr ⟨b, rfl⟩⟩
  | setInterruptHandler v svc => cases h
  | load addr bytes => cases h
  | emit b => cases h
  | ret r => cases h

/-- A call that the host may make at any time is answered the same way between runs and in a callback. -/
theorem idleTurn_common {s : State} {c : HostCall} {cs : List HostCall} {r : Except Fault State}
    (hc : s.host = c :: cs) (hr : ({ s with host := cs } : State).commonCall c = some r) :
    s.idleTurn = toOutcome r := by
  unfold State.idleTurn State.nextCall
  rw [hc]
  cases c <;> cases hr <;> rfl

theorem callbackTurn_common {s : State} {c : HostCall} {cs : List HostCall} {r : Except Fault State}
    (hc : s.host = c :: cs) (hr : ({ s with host := cs } : State).commonCall c = some r) (intIp : Int) :
    s.callbackTurn intIp = toOutcome r := by
  unfold State.callbackTurn State.nextCall
  rw [hc]
  cases c <;> cases hr <;> rfl

theorem step_common {s : State} {c : HostCall} {cs : List HostCall} {r : Except Fault State} (hact : HostActs s)
    (hc : s.host = c :: cs) (hr : ({ s with host := cs } : State).commonCall c = some r) : step s = toOutcome r := by
  obtain hidle | ⟨intIp, id, fs, hcallback⟩ := hact
  · rw [step_idle hidle, idleTurn_common hc hr]
  · rw [step_service hcallback, State.serviceTurn, callbackTurn_common hc hr]

/-- Everything a turn of the host between runs can do. -/
theorem idleTurn_next {s t : State} (h : s.idleTurn = .next t) :
    t = s ∨ ∃ cs,
      (∃ v svc, t = { s with intTable := IntTable.register s.intTable v svc, host := cs }) ∨
      (∃ addr bytes, addr + bytes.length ≤ Config.memSize ∧
        t = { s with mem := Memory.setBytes s.mem addr bytes, host := cs }) ∨
      CallKeeps { s with host := cs } t := by
  cases hc : s.host with
  | nil =>
    rw [State.idleTurn, State.nextCall, hc] at h
    cases h
    exact .inl rfl
  | cons c cs =>
    refine .inr ⟨cs, ?_⟩
    cases hr : ({ s with host := cs } : State).commonCall c with
    | some r =>
      rw [idleTurn_common hc hr, toOutcome_next] at h
      subst h
      exact .inr (.inr (commonCall_keeps hr))
    | none =>
      rw [State.idleTurn, State.nextCall, hc] at h
      cases c with
      | setInterruptHandler v svc => cases h; exact .inl ⟨v, svc, rfl⟩
      | load addr bytes =>
        simp only [State.loadBytes] at h
        split at h
        · cases h; exact .inr (.inl ⟨addr, bytes, ‹_›, rfl⟩)
        · cases h
      | emit b => cases h
      | ret r => cases h
      | _ => cases hr

/-- What a service keeps in one act, whatever it does: memory, the flags and the interrupt table stay, the output only
grows, and the innermost frame stays, is covered by a run, is replaced or is left, or every run ends Exited. -/
structure ServiceKeeps (intIp : Int) (s t : State) : Prop where
  mem : t.mem = s.mem
  flags : t.flags = s.flags
  intTable : t.intTable = s.intTable
  sink : ∃ out, t.sink = s.sink ++ out
  frames : t.frames = s.frames ∨ (∃ e, t.frames = .run e :: s.frames) ∨
    (∃ act, t.frames = .service intIp act :: s.frames.tail) ∨ t.frames = s.frames.tail ∨
    (t.frames = [] ∧ t.result = some .exited)

theorem serviceReturn_keeps {s t : State} {intIp : Int} {r : ServiceResult} (h : s.serviceReturn intIp r = .next t) :
    ServiceKeeps intIp s t := by
  cases r with
  | resume =>
    cases h
    exact ⟨rfl, rfl, rfl, ⟨[], (List.append_nil _).symm⟩, .inr (.inr (.inr (.inl rfl)))⟩
  | exit =>
    cases h
    exact ⟨rfl, rfl, rfl, ⟨[], (List.append_nil _).symm⟩, .inr (.inr (.inr (.inr ⟨rfl, rfl⟩)))⟩
  | fatal e => cases h

theorem callbackTurn_keeps {s t : State} {intIp : Int} (h : s.callbackTurn intIp = .next t) :
    ServiceKeeps intIp s t := by
  cases hc : s.host with
  | nil =>
    rw [State.callbackTurn, State.nextCall, hc] at h
    cases h
    exact ⟨rfl, rfl, rfl, ⟨[], (List.append_nil _).symm⟩, .inl rfl⟩
  | cons c cs =>
    cases hr : ({ s with host := cs } : State).commonCall c with
    | some r =>
      rw [callbackTurn_common hc hr, toOutcome_next] at h
      subst h
      obtain ⟨mem, flags, intTable, sink, frames⟩ := commonCall_keeps hr
      exact ⟨mem, flags, intTable, ⟨[], sink.trans (List.append_nil _).symm⟩, frames.imp_right .inl⟩
    | none =>
      rw [State.callbackTurn, State.nextCall, hc] at h
      cases c with
      | emit b => cases h; exact ⟨rfl, rfl, rfl, ⟨[b], rfl⟩, .inl rfl⟩
      | ret r =>
        obtain ⟨mem, flags, intTable, sink, frames⟩ := serviceReturn_keeps h
        exact ⟨mem, flags, intTable, sink, frames⟩
      | setInterruptHandler v svc => cases h
      | load addr bytes => cases h
      | _ => cases hr

theorem dosEntry_keeps {s t : State} {intIp : Int} (h : s.dosEntry intIp = .next t) : ServiceKeeps intIp s t := by
  unfold State.dosEntry at h
  split at h
  · cases h
    exact ⟨rfl, rfl, rfl, ⟨[], (List.append_nil _).symm⟩, .inr (.inr (.inl ⟨_, rfl⟩))⟩
  · exact serviceReturn_keeps h
  · exact serviceReturn_keeps h

theorem dosString_keeps {s t : State} {intIp : Int} {off : Word} (h : s.dosString intIp off = .next t) :
    ServiceKeeps intIp s t := by
  unfold State.dosString at h
  split at h
  · cases h
  · split at h
    · exact serviceReturn_keeps h
    · cases h
      exact ⟨rfl, rfl, rfl, ⟨[_], rfl⟩, .inr (.inr (.inl ⟨_, rfl⟩))⟩

/-- Everything one act of a service keeps. -/
theorem serviceTurn_keeps {s t : State} {intIp : Int} {act : Activation} (h : s.serviceTurn intIp act = .next t) :
    ServiceKeeps intIp s t := by
  cases act with
  | dosEntry => exact dosEntry_keeps h
  | dosString off => exact dosString_keeps h
  | callback id => exact callbackTurn_keeps h

/-! ## Scope: every step -/

theorem runInstruction_next {s t : State} (h : runInstruction s = .next t) : ∃ i, exec i s = .next t := by
  unfold runInstruction at h
  split at h
  · exact ⟨_, h⟩
  · cases h

/-- Everything a step that goes on can be: a turn of the host, the end of a run at its bound, an instruction of a run,
or an act of a service. -/
theorem step_next_cases {s t : State} (h : step s = .next t) :
    (s.frames = [] ∧ s.idleTurn = .next t) ∨
    (∃ e fs, s.frames = .run e :: fs ∧ (t = s.completeRun ∨ ∃ i, exec i s = .next t)) ∨
    ∃ intIp act fs, s.frames = .service intIp act :: fs ∧ s.serviceTurn intIp act = .next t := by
  cases hf : s.frames with
  | nil => exact .inl ⟨rfl, step_idle hf ▸ h⟩
  | cons f fs =>
    cases f with
    | run e =>
      refine .inr (.inl ⟨e, fs, rfl, ?_⟩)
      by_cases he : e ≤ s.ip
      · rw [step_bound hf he] at h
        exact .inl (Host.Outcome.next.inj h).symm
      · rw [step_run hf (by omega)] at h
        exact .inr (runInstruction_next h)
    | service intIp act => exact .inr (.inr ⟨intIp, act, fs, rfl, step_service hf ▸ h⟩)

/-- The end of a run changes only the frames and the result. -/
theorem completeRun_eq (s : State) : ∃ fs r, s.completeRun = { s with frames := fs, result := r } := by
  unfold State.completeRun
  split
  · exact ⟨_, _, rfl⟩
  · exact ⟨_, _, rfl⟩

/-- Settles O14: by the kind of the step. -/
theorem unusedFlagsAndVectorsAreNotWritten : Obligations.UnusedFlagsAndVectorsAreNotWritten := by
  intro s t h
  have of_flags (e : t.flags = s.flags) : UnusedFlagsSame s t := by rw [UnusedFlagsSame, e]; exact ⟨rfl, rfl, rfl, rfl⟩
  obtain ⟨hf, hidle⟩ | ⟨e, fs, hf, rfl | ⟨i, hx⟩⟩ | ⟨intIp, act, fs, hf, hservice⟩ := step_next_cases h
  · refine ⟨of_flags ?_, fun hne => absurd hf hne⟩
    obtain rfl | ⟨cs, ⟨v, svc, rfl⟩ | ⟨addr, bytes, -, rfl⟩ | hcall⟩ := idleTurn_next hidle
    · rfl
    · rfl
    · rfl
    · exact hcall.flags
  · obtain ⟨fs', r, heq⟩ := completeRun_eq s
    rw [heq]
    exact ⟨⟨rfl, rfl, rfl, rfl⟩, fun _ => rfl⟩
  · obtain hadv | ⟨-, hkeep⟩ | ⟨v, svc, -, -, rfl⟩ := exec_next_cases hx
    · exact ⟨hadv.unused, fun _ => hadv.outside.1⟩
    · exact ⟨hkeep.unused, fun _ => hkeep.outside.1⟩
    · exact ⟨⟨rfl, rfl, rfl, rfl⟩, fun _ => rfl⟩
  · have hkeep := serviceTurn_keeps hservice
    exact ⟨of_flags hkeep.flags, fun _ => hkeep.intTable⟩

/-! ### The nesting of runs and services -/

/-- What stands below a frame is nested by turns when the whole is. -/
theorem framesWf_tail {fs : List Frame} (h : framesWf fs = true) : framesWf fs.tail = true := by
  match fs, h with
  | [], h => exact h
  | [.run _], _ => rfl
  | .run _ :: .service _ _ :: _, h => exact h
  | .service _ _ :: .run _ :: _, h => exact h

/-- A service can be replaced by another act of it. -/
theorem framesWf_act {i j : Int} {a b : Activation} {fs : List Frame} (h : framesWf (.service i a :: fs) = true) :
    framesWf (.service j b :: fs) = true := by
  match fs, h with
  | .run _ :: _, h => exact h

/-- A run calls a service. -/
theorem framesWf_call {e : Int} {fs : List Frame} (h : framesWf (.run e :: fs) = true) (i : Int) (a : Activation) :
    framesWf (.service i a :: .run e :: fs) = true := h

/-- The end of a run leaves the frames below it, or none. -/
theorem framesWf_completeRun {s : State} (h : framesWf s.frames = true) : framesWf s.completeRun.frames = true := by
  unfold State.completeRun
  split
  next hf => rw [hf] at h; exact framesWf_tail h
  next => rfl

/-- Every step keeps runs and services nested by turns (R358). -/
theorem step_keeps_framesWf {s t : State} (hw : framesWf s.frames = true) (h : step s = .next t) :
    framesWf t.frames = true := by
  obtain ⟨hf, hidle⟩ | ⟨e, fs, hf, rfl | ⟨i, hx⟩⟩ | ⟨intIp, act, fs, hf, hservice⟩ := step_next_cases h
  · obtain rfl | ⟨cs, ⟨v, svc, rfl⟩ | ⟨addr, bytes, -, rfl⟩ | hcall⟩ := idleTurn_next hidle
    · exact hw
    · exact hw
    · exact hw
    · obtain same | ⟨b, new⟩ := hcall.frames
      · rw [same]; exact hw
      · rw [new, show ({ s with host := cs } : State).frames = [] from hf]; rfl
  · exact framesWf_completeRun hw
  · obtain hadv | ⟨-, hkeep⟩ | ⟨v, svc, -, -, rfl⟩ := exec_next_cases hx
    · rw [hadv.outside.2.1]; exact hw
    · rw [hkeep.outside.2.1]; exact hw
    · rw [State.enterService_frames, hf]
      exact framesWf_call (hf ▸ hw) _ _
  · have hframes := (serviceTurn_keeps hservice).frames
    rw [hf] at hw hframes
    obtain e | ⟨b, e⟩ | ⟨act', e⟩ | e | ⟨e, -⟩ := hframes <;> rw [e]
    · exact hw
    · exact hw
    · exact framesWf_act hw
    · exact framesWf_tail hw
    · rfl

/-! ### Memory, the interrupt table and the flags -/

/-- Every step keeps memory in canonical form. -/
theorem step_keeps_memWf {s t : State} (hw : Memory.wf s.mem = true) (h : step s = .next t) :
    Memory.wf t.mem = true := by
  obtain ⟨-, hidle⟩ | ⟨e, fs, -, rfl | ⟨i, hx⟩⟩ | ⟨intIp, act, fs, -, hservice⟩ := step_next_cases h
  · obtain rfl | ⟨cs, ⟨v, svc, rfl⟩ | ⟨addr, bytes, hfit, rfl⟩ | hcall⟩ := idleTurn_next hidle
    · exact hw
    · exact hw
    · exact Memory.wf_setBytes bytes hw hfit
    · rw [hcall.mem]; exact hw
  · obtain ⟨fs', r, heq⟩ := completeRun_eq s
    rw [heq]; exact hw
  · obtain hadv | ⟨-, hkeep⟩ | ⟨v, svc, -, -, rfl⟩ := exec_next_cases hx
    · exact hadv.memWf hw
    · exact hkeep.memWf hw
    · exact hw
  · rw [(serviceTurn_keeps hservice).mem]; exact hw

/-- Every step keeps the interrupt table in canonical form: during a run no step changes it (O14). -/
theorem step_keeps_intTableWf {s t : State} (hw : IntTable.wf s.intTable = true) (h : step s = .next t) :
    IntTable.wf t.intTable = true := by
  by_cases hf : s.frames = []
  · obtain rfl | ⟨cs, ⟨v, svc, rfl⟩ | ⟨addr, bytes, -, rfl⟩ | hcall⟩ := idleTurn_next (step_idle hf ▸ h)
    · exact hw
    · exact IntTable.wf_register v svc hw
    · exact hw
    · rw [hcall.intTable]; exact hw
  · rw [(unusedFlagsAndVectorsAreNotWritten s t h).2 hf]; exact hw

theorem idleFlagsClear_of_unused {s t : State} (h : UnusedFlagsSame s t) (hs : s.flags.idleFlagsClear = true) :
    t.flags.idleFlagsClear = true := by
  obtain ⟨hAF, hTF, hIF, hDF⟩ := h
  rw [Flags.idleFlagsClear, hAF, hTF, hIF, hDF]
  exact hs

/-- Settles O12: every step keeps each part of the invariant; the four flags are not written at all (O14). -/
theorem stepKeepsTheInvariant : Obligations.StepKeepsTheInvariant := fun s t ⟨hmem, htab, hframes, hflags⟩ h =>
  ⟨step_keeps_memWf hmem h, step_keeps_intTableWf htab h, step_keeps_framesWf hframes h,
    idleFlagsClear_of_unused (unusedFlagsAndVectorsAreNotWritten s t h).1 hflags⟩

end Sys2Proof.Proofs

namespace Sys2Proof.Proofs

open Sys2Proof.Machine Sys2Proof.Statements

/-! ## Scope: the decoder on an instruction's own bytes -/

/-- Whatever follows the encoding of a well-formed instruction, the decoder reads the instruction back (R101, R118). -/
theorem decode_encode_append (i : Instr) (rest : List Byte) (hw : i.wellFormed = true) :
    decode (encode i ++ rest) = .ok i := by
  have imm8 (v : Byte) (pre : List Byte) := byteAt_append v rest pre
  have imm16 (v : Word) (pre : List Byte) := wordAt_append v rest pre
  cases i using byFamily with
  | aluRm8R8 op dst src => cases op <;> exact decodeModrm_encodeRM Reg8.ofCode_code _ src hw rest _
  | aluRm16R16 op dst src => cases op <;> exact decodeModrm_encodeRM Reg16.ofCode_code _ src hw rest _
  | aluR8Rm8 op dst src =>
    have hsrc : src.wellFormed = true := by cases op <;> exact hw
    have read (b : Byte) := decodeModrm_encodeRM Reg8.ofCode_code b dst hsrc rest fun rm r => aluR8Rm8 op r rm
    cases op <;> exact read _
  | aluR16Rm16 op dst src =>
    have hsrc : src.wellFormed = true := by cases op <;> exact hw
    have read (b : Byte) := decodeModrm_encodeRM Reg16.ofCode_code b dst hsrc rest fun rm r => aluR16Rm16 op r rm
    cases op <;> exact read _
  | aluAlImm8 op imm => cases op <;> rfl
  | aluAxImm16 op imm =>
    have read := decodeI16_wordBytes (aluAxImm16 op) ((encode (aluAxImm16 op imm)).getD 0 0) imm rest
    cases op <;> exact read
  | aluRm8Imm8 op dst imm =>
    cases op <;> exact decodeGroup_encodeRM Reg8.ofCode_code _ _ hw [imm] rest group80 byteAt imm (imm8 imm)
  | aluRm16Imm16 op dst imm =>
    cases op <;>
      exact decodeGroup_encodeRM Reg16.ofCode_code _ _ hw (wordBytes imm) rest group81 wordAt imm (imm16 imm)
  | aluRm16SImm8 op dst imm =>
    cases op <;> exact decodeGroup_encodeRM Reg16.ofCode_code _ _ hw [imm] rest group83 byteAt imm (imm8 imm)
  | movRm8R8 dst src => exact decodeModrm_encodeRM Reg8.ofCode_code _ src hw rest _
  | movRm16R16 dst src => exact decodeModrm_encodeRM Reg16.ofCode_code _ src hw rest _
  | movR8Rm8 dst src => exact decodeModrm_encodeRM Reg8.ofCode_code _ dst hw rest fun rm r => .movR8Rm8 r rm
  | movR16Rm16 dst src => exact decodeModrm_encodeRM Reg16.ofCode_code _ dst hw rest fun rm r => .movR16Rm16 r rm
  | movRm16Sreg dst src => exact decodeModrmSeg_encodeRM _ src hw rest _
  | movSregRm16 dst src => exact decodeModrmSeg_encodeRM _ dst hw rest fun rm sr => .movSregRm16 sr rm
  | movR8Imm8 dst imm => cases dst <;> rfl
  | movR16Imm16 dst imm =>
    have read := decodeI16_wordBytes (.movR16Imm16 dst) (0b10111#5 ++ dst.code) imm rest
    cases dst <;> exact read
  | les dst src => exact decodeFar_encodeMem _ dst hw rest _
  | lds dst src => exact decodeFar_encodeMem _ dst hw rest _
  | pushR16 src => cases src <;> rfl
  | popR16 dst => cases dst <;> rfl
  | pusha => rfl
  | popa => rfl
  | ret => rfl
  | retImm16 imm => exact decodeI16_wordBytes _ 0xC2 imm rest
  | int v => rfl
  | pushSeg sr => cases sr <;> rfl
  | popSeg sr i hi => cases sr <;> cases hi <;> rfl
  | jcc c disp => cases c <;> rfl

/-- Settles O7: the window begins with the encoding (`Memory.window_of_bytes`), which the decoder reads back. -/
theorem stepRunsTheInstructionInMemory : Obligations.StepRunsTheInstructionInMemory := by
  intro s i hrun hw ⟨hip, hfit, hbytes⟩
  obtain ⟨rest, hwindow⟩ := Memory.window_of_bytes s.mem (encode i) s.ip.toNat Config.maxInstrBytes hfit
    ((encodingLength i).1.trans_le (encodingLength i).2.2) hbytes
  refine stepRunsTheDecodedInstruction s i hrun ?_
  rw [State.fetchWindow, if_neg (by omega), hwindow]
  exact decode_encode_append i rest hw

end Sys2Proof.Proofs

namespace Sys2Proof.Proofs

open Sys2Proof.Machine Sys2Proof.Statements

/-! ## Scope: the decoder on an encoding that breaks off

The decoder asks for one field after the other. When the bytes break off, it refuses for the first field that is not all
there (R92, R349). -/

theorem byteAt_missing {bs : List Byte} {k : Nat} (h : bs.length ≤ k) : byteAt bs k = .error (.missing k) := by
  rw [byteAt, List.getElem?_eq_none h]

theorem wordAt_missing {bs : List Byte} {k : Nat} (h : bs.length ≤ k + 1) : wordAt bs k = .error (.missing k) := by
  rw [wordAt, List.getElem?_eq_none h]
  split <;> simp_all

/-! ### The displacement -/

/-- In the fields of an encoding, the displacement after the ModRM byte `b` is the bytes `d`, no field when there are
none. -/
def DispField (b : Byte) (d : List Byte) : Prop :=
  ∀ (rest : List Nat) (n : Nat),
    fieldStart (dispSizes b ++ rest) n = if n < d.length then 0 else d.length + fieldStart rest (n - d.length)

theorem dispField_nil {b : Byte} (h : dispSizes b = []) : DispField b [] := by
  intro rest n
  simp [h]

theorem dispField_one {b : Byte} {d : List Byte} (h : dispSizes b = [d.length]) : DispField b d := by
  intro rest n
  rw [h]; rfl

/-- The displacement sizes of R107, by mod. -/
theorem dispSizes_modrmByte (reg rm : BitVec 3) :
    dispSizes (modrmByte 0 reg rm) = (if rm = 6#3 then [2] else []) ∧ dispSizes (modrmByte 1 reg rm) = [1] ∧
      dispSizes (modrmByte 2 reg rm) = [2] ∧ dispSizes (modrmByte 3 reg rm) = [] := by
  revert reg rm; decide

theorem base_code_ne_six {b : Base} (h : (MemForm.base b).wellFormed = true) : b.code ≠ 6#3 := by
  cases b with
  | bp => cases h
  | bxSi => decide
  | bxDi => decide
  | bpSi => decide
  | bpDi => decide
  | si => decide
  | di => decide
  | bx => decide

theorem dispField_encodeMem {reg : BitVec 3} {m : MemForm} (hw : m.wellFormed = true) {b : Byte} {d : List Byte}
    (he : encodeMem reg m = b :: d) : DispField b d := by
  cases m with
  | direct a => cases he; exact dispField_one (dispSizes_modrmByte reg 6).1
  | base c =>
    cases he
    exact dispField_nil ((dispSizes_modrmByte reg c.code).1.trans (if_neg (base_code_ne_six hw)))
  | disp8 c v => cases he; exact dispField_one (dispSizes_modrmByte reg c.code).2.1
  | disp16 c v => cases he; exact dispField_one (dispSizes_modrmByte reg c.code).2.2.1

/-- Without all of its displacement a memory form is refused for that field. -/
theorem decodeMem_missing {reg : BitVec 3} {m : MemForm} {b : Byte} {d : List Byte} (he : encodeMem reg m = b :: d)
    (op : Byte) {k : Nat} (hk : k < d.length) :
    decodeMem (modField b) (rmField b) (op :: b :: d.take k) = .error (.missing 2) := by
  have hlen : (op :: b :: d.take k).length ≤ d.length + 1 := by simp; omega
  cases m with
  | direct a =>
    cases he
    rw [modField_modrmByte, rmField_modrmByte]
    exact congrArg (Except.map MemForm.direct) (wordAt_missing hlen)
  | base c => cases he; cases hk
  | disp8 c v => cases he; rw [modField_modrmByte]; exact congrArg (Except.map _) (byteAt_missing hlen)
  | disp16 c v => cases he; rw [modField_modrmByte]; exact congrArg (Except.map _) (wordAt_missing hlen)

/-- An encoded rm side: its ModRM byte and its displacement, which the decoder reads back, or refuses where it breaks
off. -/
theorem decodeRM_of_encodeRM {R : Type} {code : R → BitVec 3} {ofCode : BitVec 3 → R}
    (hc : ∀ r, ofCode (code r) = r) (op : Byte) (reg : BitVec 3) {rm : RM R} (hw : rm.wellFormed = true) :
    ∃ b d, encodeRM code reg rm = b :: d ∧ regField b = reg ∧ d.length + 2 = rm.len ∧ DispField b d ∧
      (∀ tail, decodeRM ofCode b (op :: b :: (d ++ tail)) = .ok rm) ∧
      ∀ k, k < d.length → decodeRM ofCode b (op :: b :: d.take k) = .error (.missing 2) := by
  obtain ⟨b, d, he, hreg, hlen, -⟩ := decodeRM_encodeRM hc op reg hw []
  have hread (tail : List Byte) : decodeRM ofCode b (op :: b :: (d ++ tail)) = .ok rm := by
    obtain ⟨b', d', he', -, -, hd⟩ := decodeRM_encodeRM hc op reg hw tail
    cases he.symm.trans he'
    exact hd
  refine ⟨b, d, he, hreg, hlen, ?_, hread, fun k hk => ?_⟩
  · cases rm with
    | reg r => cases he; exact dispField_nil (dispSizes_modrmByte reg _).2.2.2
    | mem m => exact dispField_encodeMem hw he
  · cases rm with
    | reg r => cases he; cases hk
    | mem m =>
      obtain ⟨b', d', he', -, hmod, -⟩ := decodeMem_encodeMem op reg (m := m) hw []
      cases he.symm.trans he'
      rw [decodeRM, if_neg hmod, decodeMem_missing he op hk]; rfl

/-! ### By format -/

/-- The decoder `dec` of the opcode `op`, given the opcode and a proper part of the bytes `rest` that should follow it,
refuses for the first of the `fields` after the opcode that is not all there. -/
def Truncates (dec : List Byte → Except DecodeError Instr) (op : Byte) (rest : List Byte) (fields : List Nat) : Prop :=
  ∀ k, k < rest.length → dec (op :: rest.take k) = .error (.missing (1 + fieldStart fields k))

theorem truncates_none (dec : List Byte → Except DecodeError Instr) (op : Byte) : Truncates dec op [] [] :=
  fun _ h => absurd h (Nat.not_lt_zero _)

theorem truncates_i8 (mk : Byte → Instr) (op imm : Byte) : Truncates (decodeI8 mk) op [imm] [1] := by
  intro k hk
  obtain rfl : k = 0 := by simpa using hk
  rfl

theorem truncates_i16 (mk : Word → Instr) (op : Byte) (imm : Word) :
    Truncates (decodeI16 mk) op (wordBytes imm) [2] := by
  intro k hk
  have hk2 : k < 2 := hk
  have hlen : (op :: (wordBytes imm).take k).length ≤ 1 + 1 := by simp; omega
  rw [decodeI16, wordAt_missing hlen, fieldStart, if_pos hk2]; rfl

/-- The field an rm side breaks off in, counted from the ModRM byte. -/
theorem fieldStart_displacement {b : Byte} {d : List Byte} (h : DispField b d) {k : Nat} (hk : k < d.length)
    (rest : List Nat) : 1 + fieldStart (1 :: (dispSizes b ++ rest)) (k + 1) = 2 := by
  rw [fieldStart, if_neg (by omega), Nat.add_sub_cancel, h, if_pos hk]

section Modrm

variable {R : Type} {code : R → BitVec 3} {ofCode : BitVec 3 → R} (hc : ∀ r, ofCode (code r) = r)

include hc in
theorem truncates_modrm (mk : RM R → R → Instr) (op : Byte) (reg : BitVec 3) {rm : RM R} (hw : rm.wellFormed = true) :
    Truncates (decodeModrm ofCode mk) op (encodeRM code reg rm)
      (1 :: (dispSizes ((encodeRM code reg rm).getD 0 0) ++ [])) := by
  obtain ⟨b, d, he, -, -, hdisp, -, hmissing⟩ := decodeRM_of_encodeRM hc op reg hw
  rw [he]
  rintro (_ | k) hk
  · rfl
  · have hk' : k < d.length := by simpa using hk
    rw [List.getD_cons_zero, fieldStart_displacement hdisp hk']
    simp only [List.take_succ_cons, decodeModrm, byteAt, List.getElem?_cons_succ, List.getElem?_cons_zero]
    simp only [bind, Except.bind, hmissing k hk']

theorem truncates_modrmSeg (mk : RM Reg16 → SReg → Instr) (op : Byte) (sr : SReg) {rm : RM Reg16}
    (hw : rm.wellFormed = true) :
    Truncates (decodeModrmSeg op mk) op (encodeRM Reg16.code sr.code rm)
      (1 :: (dispSizes ((encodeRM Reg16.code sr.code rm).getD 0 0) ++ [])) := by
  obtain ⟨b, d, he, hreg, -, hdisp, -, hmissing⟩ := decodeRM_of_encodeRM Reg16.ofCode_code op sr.code hw
  rw [he]
  rintro (_ | k) hk
  · rfl
  · have hk' : k < d.length := by simpa using hk
    rw [List.getD_cons_zero, fieldStart_displacement hdisp hk']
    simp only [List.take_succ_cons, decodeModrmSeg, byteAt, List.getElem?_cons_succ, List.getElem?_cons_zero]
    simp only [bind, Except.bind, hreg, SReg.ofCode_code, hmissing k hk']

theorem truncates_far (mk : Reg16 → MemForm → Instr) (op : Byte) (reg : BitVec 3) {m : MemForm}
    (hw : m.wellFormed = true) :
    Truncates (decodeFar op mk) op (encodeMem reg m) (1 :: (dispSizes ((encodeMem reg m).getD 0 0) ++ [])) := by
  obtain ⟨b, d, he, -, hmod, -⟩ := decodeMem_encodeMem op reg hw []
  have hdisp := dispField_encodeMem hw he
  have hmissing {k : Nat} (hk : k < d.length) := decodeMem_missing he op hk
  rw [he]
  rintro (_ | k) hk
  · rfl
  · have hk' : k < d.length := by simpa using hk
    rw [List.getD_cons_zero, fieldStart_displacement hdisp hk']
    simp only [List.take_succ_cons, decodeFar, byteAt, List.getElem?_cons_succ, List.getElem?_cons_zero]
    simp only [bind, Except.bind, if_neg hmod, hmissing hk']

include hc in
/-- The immediate group: the immediate `ib` is one field after the rm side. -/
theorem truncates_group {I : Type} (sub : BitVec 3 → RM R → I → Instr) {imm : List Byte → Nat → Except DecodeError I}
    (op : Byte) (reg : BitVec 3) {rm : RM R} (hw : rm.wellFormed = true) {ib : List Byte}
    (himm : ∀ (pre : List Byte) (k : Nat), k < ib.length →
      imm (pre ++ ib.take k) pre.length = .error (.missing pre.length)) :
    Truncates (decodeGroup ofCode imm sub) op (encodeRM code reg rm ++ ib)
      (1 :: (dispSizes ((encodeRM code reg rm ++ ib).getD 0 0) ++ [ib.length])) := by
  obtain ⟨b, d, he, -, hlen, hdisp, hread, hmissing⟩ := decodeRM_of_encodeRM hc op reg hw
  rw [he]
  rintro (_ | k) hk
  · rfl
  · rw [List.cons_append, List.getD_cons_zero]
    simp only [List.take_succ_cons, decodeGroup, byteAt, List.getElem?_cons_succ,
      List.getElem?_cons_zero]
    by_cases hd : k < d.length
    · rw [fieldStart_displacement hdisp hd, List.take_append_of_le_length hd.le]
      simp only [bind, Except.bind, hmissing k hd]
    · have hib : k - d.length < ib.length := by simp at hk; omega
      have hstop := himm (op :: b :: d) (k - d.length) hib
      simp only [List.length_cons, List.cons_append, hlen] at hstop
      rw [List.take_append, List.take_of_length_le (Nat.le_of_not_lt hd)]
      simp only [bind, Except.bind, hread, hstop]
      rw [fieldStart, if_neg (by omega), Nat.add_sub_cancel, hdisp, if_neg hd, fieldStart, if_pos hib, ← hlen]
      congr 2
      omega

end Modrm

theorem byteAt_take_missing (v : Byte) (pre : List Byte) (k : Nat) (h : k < [v].length) :
    byteAt (pre ++ [v].take k) pre.length = .error (.missing pre.length) := by
  obtain rfl : k = 0 := by simpa using h
  exact byteAt_missing (by simp)

theorem wordAt_take_missing (v : Word) (pre : List Byte) (k : Nat) (h : k < (wordBytes v).length) :
    wordAt (pre ++ (wordBytes v).take k) pre.length = .error (.missing pre.length) := by
  have hk : k < 2 := h
  exact wordAt_missing (by simp; omega)

/-! ### Every instruction -/

/-- From a format's lemma to the whole decoder. -/
theorem decode_take {dec : List Byte → Except DecodeError Instr} {op : Byte} {rest : List Byte}
    {fields : List Nat} (h : Truncates dec op rest fields) {i : Instr} {n : Nat} (hn : n < (encode i).length)
    (he : encode i = op :: rest) (hd : ∀ bs, decodeOpcode op bs = dec bs)
    (hf : fieldSizes op (rest.getD 0 0) = 1 :: fields) :
    decode ((encode i).take n) = .error (.missing (fieldStart (fieldsOf i) n)) := by
  have hfields : fieldsOf i = 1 :: fields := by rw [fieldsOf, he]; exact hf
  rw [hfields, he]
  rw [he, List.length_cons] at hn
  cases n with
  | zero => rfl
  | succ k =>
    rw [List.take_succ_cons, decode, hd, h k (by omega), fieldStart, if_neg (by omega), Nat.add_sub_cancel]

/-- A proper part of an instruction's encoding is refused for the first field that is not all there. -/
theorem decode_take_encode {i : Instr} (hw : i.wellFormed = true) {n : Nat} (hn : n < (encode i).length) :
    decode ((encode i).take n) = .error (.missing (fieldStart (fieldsOf i) n)) := by
  cases i using byFamily with
  | aluRm8R8 op dst src =>
    cases op <;> exact decode_take (truncates_modrm Reg8.ofCode_code _ _ src.code hw) hn rfl (fun _ => rfl) rfl
  | aluRm16R16 op dst src =>
    cases op <;> exact decode_take (truncates_modrm Reg16.ofCode_code _ _ src.code hw) hn rfl (fun _ => rfl) rfl
  | aluR8Rm8 op dst src =>
    have hsrc : src.wellFormed = true := by cases op <;> exact hw
    have stop (b : Byte) := truncates_modrm Reg8.ofCode_code (fun rm r => aluR8Rm8 op r rm) b dst.code hsrc
    cases op <;> exact decode_take (stop _) hn rfl (fun _ => rfl) rfl
  | aluR16Rm16 op dst src =>
    have hsrc : src.wellFormed = true := by cases op <;> exact hw
    have stop (b : Byte) := truncates_modrm Reg16.ofCode_code (fun rm r => aluR16Rm16 op r rm) b dst.code hsrc
    cases op <;> exact decode_take (stop _) hn rfl (fun _ => rfl) rfl
  | aluAlImm8 op imm =>
    cases op <;> exact decode_take (truncates_i8 _ _ imm) hn rfl (fun _ => rfl) rfl
  | aluAxImm16 op imm =>
    cases op <;> exact decode_take (truncates_i16 _ _ imm) hn rfl (fun _ => rfl) rfl
  | aluRm8Imm8 op dst imm =>
    cases op <;> exact decode_take
      (truncates_group Reg8.ofCode_code group80 _ _ hw (byteAt_take_missing imm)) hn rfl (fun _ => rfl) rfl
  | aluRm16Imm16 op dst imm =>
    cases op <;> exact decode_take
      (truncates_group Reg16.ofCode_code group81 _ _ hw (wordAt_take_missing imm)) hn rfl (fun _ => rfl) rfl
  | aluRm16SImm8 op dst imm =>
    cases op <;> exact decode_take
      (truncates_group Reg16.ofCode_code group83 _ _ hw (byteAt_take_missing imm)) hn rfl (fun _ => rfl) rfl
  | movRm8R8 dst src =>
    exact decode_take (truncates_modrm Reg8.ofCode_code _ _ src.code hw) hn rfl (fun _ => rfl) rfl
  | movRm16R16 dst src =>
    exact decode_take (truncates_modrm Reg16.ofCode_code _ _ src.code hw) hn rfl (fun _ => rfl) rfl
  | movR8Rm8 dst src =>
    exact decode_take
      (truncates_modrm Reg8.ofCode_code (fun rm r => .movR8Rm8 r rm) _ dst.code hw) hn rfl (fun _ => rfl) rfl
  | movR16Rm16 dst src =>
    exact decode_take
      (truncates_modrm Reg16.ofCode_code (fun rm r => .movR16Rm16 r rm) _ dst.code hw) hn rfl (fun _ => rfl) rfl
  | movRm16Sreg dst src => exact decode_take (truncates_modrmSeg _ _ src hw) hn rfl (fun _ => rfl) rfl
  | movSregRm16 dst src =>
    exact decode_take (truncates_modrmSeg (fun rm sr => .movSregRm16 sr rm) _ dst hw) hn rfl (fun _ => rfl) rfl
  | movR8Imm8 dst imm => cases dst <;> exact decode_take (truncates_i8 _ _ imm) hn rfl (fun _ => rfl) rfl
  | movR16Imm16 dst imm => cases dst <;> exact decode_take (truncates_i16 _ _ imm) hn rfl (fun _ => rfl) rfl
  | les dst src => exact decode_take (truncates_far _ _ dst.code hw) hn rfl (fun _ => rfl) rfl
  | lds dst src => exact decode_take (truncates_far _ _ dst.code hw) hn rfl (fun _ => rfl) rfl
  | pushR16 src => cases src <;> exact decode_take (truncates_none _ _) hn rfl (fun _ => rfl) rfl
  | popR16 dst => cases dst <;> exact decode_take (truncates_none _ _) hn rfl (fun _ => rfl) rfl
  | pusha => exact decode_take (truncates_none _ _) hn rfl (fun _ => rfl) rfl
  | popa => exact decode_take (truncates_none _ _) hn rfl (fun _ => rfl) rfl
  | ret => exact decode_take (truncates_none _ _) hn rfl (fun _ => rfl) rfl
  | retImm16 imm => exact decode_take (truncates_i16 _ _ imm) hn rfl (fun _ => rfl) rfl
  | int v => exact decode_take (truncates_i8 _ _ v) hn rfl (fun _ => rfl) rfl
  | pushSeg sr => cases sr <;> exact decode_take (truncates_none _ _) hn rfl (fun _ => rfl) rfl
  | popSeg sr i hi => cases sr <;> cases hi <;> exact decode_take (truncates_none _ _) hn rfl (fun _ => rfl) rfl
  | jcc c disp => cases c <;> exact decode_take (truncates_i8 _ _ disp) hn rfl (fun _ => rfl) rfl

/-! ### The fetch -/

/-- The window at the end of memory is the bytes up to there. -/
theorem window_at_end (m : Memory) {n k a : Nat} {bs : List Byte} (hn : n ≤ k) (ha : a + n = Config.memSize)
    (hbs : ∀ j, j < n → bs[j]? = some (Memory.byte m (a + j))) : Memory.window m a k = bs.take n := by
  induction n generalizing k a bs with
  | zero =>
    cases k with
    | zero => rfl
    | succ k => exact if_neg (by omega)
  | succ n ih =>
    obtain ⟨k, rfl⟩ : ∃ j, k = j + 1 := ⟨k - 1, by omega⟩
    cases bs with
    | nil => exact absurd (hbs 0 (by omega)) (by simp)
    | cons b bs =>
      have hb : b = Memory.byte m a := by simpa using hbs 0 (by omega)
      rw [Memory.window, if_pos (by omega), List.take_succ_cons, hb,
        ih (by omega) (by omega) fun j hj => by simpa [Nat.add_assoc, Nat.add_comm 1] using hbs (j + 1) (by omega)]

/-- A run whose decoder misses a field stops with that field's address (R349). -/
theorem step_of_missing {s : State} {k : Nat} (hrun : Running s) (h : decode s.fetchWindow = .error (.missing k)) :
    step s = .fault (.addressOutOfRange (s.ip + k)) := by
  obtain ⟨e, fs, hf, hip⟩ := hrun
  rw [step_run hf hip, runInstruction_of_error h]; rfl

/-- An instruction that runs past the end of memory stops the run with the address of the first field not all inside. -/
theorem step_past_end {s : State} {i : Instr} {n : Nat} (hrun : Running s) (hw : i.wellFormed = true) (hip : 0 ≤ s.ip)
    (hend : s.ip.toNat + n = Config.memSize) (hn : n < (encode i).length)
    (hbytes : ∀ k, k < n → (encode i)[k]? = some (Memory.byte s.mem (s.ip.toNat + k))) :
    step s = .fault (.addressOutOfRange (s.ip + fieldStart (fieldsOf i) n)) := by
  have hlen : (encode i).length ≤ Config.maxInstrBytes := (encodingLength i).1.trans_le (encodingLength i).2.2
  refine step_of_missing hrun ?_
  rw [State.fetchWindow, if_neg (by omega), window_at_end s.mem (by omega) hend hbytes]
  exact decode_take_encode hw hn

/-- The opcode byte of a conditional jump alone lacks its displacement (R301). -/
theorem decode_jump_opcode : ∀ b : Byte, 0x70 ≤ b.toNat → b.toNat ≤ 0x7F → decode [b] = .error (.missing 1) := by
  decide

/-- Settles O9: the decoder refuses for the first field that is not all inside memory, and the step stops there. -/
theorem fetchOutsideMemoryFaults : Obligations.FetchOutsideMemoryFaults := by
  refine fun s hrun => ⟨fun h => ?_, fun hip h70 h7F => ?_, fun k h => step_of_missing hrun h,
    fun i n hw hip hend hn hbytes => step_past_end hrun hw hip hend hn hbytes⟩
  · have := step_of_missing hrun (k := 0) (by rw [State.fetchWindow_outside h]; rfl)
    simpa using this
  · have hnat : s.ip.toNat = Config.memSize - 1 := by omega
    have hwindow : s.fetchWindow = [Memory.byte s.mem (Config.memSize - 1)] := by
      rw [State.fetchWindow, if_neg (by rw [hip]; decide), hnat]
      exact window_at_end s.mem (n := 1) (bs := [_]) (by decide) (by decide) fun j hj => by
        obtain rfl : j = 0 := by omega
        rfl
    rw [step_of_missing hrun (by rw [hwindow]; exact decode_jump_opcode _ h70 h7F), hip]
    rfl

end Sys2Proof.Proofs

namespace Sys2Proof.Proofs

open Sys2Proof.Machine Sys2Proof.Statements

/-! ## Scope: the host's calls -/

/-- Settles O55: `Execute` is a call the host may make at any time, and starts a run. -/
theorem executeChangesOnlyIp : Obligations.ExecuteChangesOnlyIp :=
  fun _ _ _ _ hact hhost => step_common hact hhost rfl

theorem hostTurn_of_hostActs {s : State} (h : HostActs s) : s.hostTurn = true := (State.hostTurn_iff s).mpr h

/-- Settles O56: each accessor is a call the host may make at any time; `GetInDs` is a checked read. -/
theorem hostRegisterAccessors : Obligations.HostRegisterAccessors := by
  refine fun s h hact => ⟨fun r v hhost => step_common hact hhost rfl, fun r v hhost => step_common hact hhost rfl,
    fun r v hhost => step_common hact hhost rfl, fun r v => ⟨Segs.get_set_self .., segsBut_setSeg s r v⟩,
    fun c hc hhost => ?_, fun off hhost => ⟨fun hfit => ?_, fun hout => ⟨?_, ?_⟩⟩⟩
  · obtain ⟨r, rfl⟩ | ⟨r, rfl⟩ | ⟨r, rfl⟩ := hc <;> exact step_common hact hhost rfl
  · have hread : ({ s with host := h } : State).getInDs off = .ok (Memory.byte s.mem (phys (s.seg .ds) off)) :=
      (State.read8_eq ..).trans (if_pos hfit)
    rw [step_common hact hhost rfl, hread]
    rfl
  · have hread : ({ s with host := h } : State).getInDs off = .error (.addressOutOfRange (phys (s.seg .ds) off)) :=
      (State.read8_eq ..).trans (if_neg (by simp only [State.seg] at hout ⊢; omega))
    rw [step_common hact hhost rfl, hread]
    rfl
  · rw [State.endFatal_host_of_turn (hostTurn_of_hostActs hact), hhost]
    rfl

@[simp] theorem lookup_register_self (t : IntTable) (v : Byte) (svc : Service) :
    IntTable.lookup (IntTable.register t v svc) v = some svc := by
  induction t with
  | nil => simp [IntTable.register, IntTable.lookup]
  | cons c rest ih =>
    obtain ⟨k, old⟩ := c
    simp only [IntTable.register]
    split
    · simp [IntTable.lookup]
    · split
      · simp [IntTable.lookup]
      next hne => simp [IntTable.lookup, Ne.symm hne, ih]

theorem lookup_register_ne (t : IntTable) {v w : Byte} (svc : Service) (h : w ≠ v) :
    IntTable.lookup (IntTable.register t v svc) w = IntTable.lookup t w := by
  induction t with
  | nil => simp [IntTable.register, IntTable.lookup, Ne.symm h]
  | cons c rest ih =>
    obtain ⟨k, old⟩ := c
    simp only [IntTable.register]
    split
    · simp [IntTable.lookup, Ne.symm h]
    · split
      next hvk => subst hvk; simp [IntTable.lookup, Ne.symm h]
      next => simp only [IntTable.lookup, ih]

theorem idleTurn_setInterruptHandler {s : State} {v : Byte} {svc : Service} {h : List HostCall}
    (hhost : s.host = .setInterruptHandler v svc :: h) :
    s.idleTurn = .next { s with intTable := IntTable.register s.intTable v svc, host := h } := by
  rw [State.idleTurn, State.nextCall, hhost]

/-- Settles O57: between runs the call registers the vector; a callback has no such call. -/
theorem setInterruptHandlerSetsOneVector : Obligations.SetInterruptHandlerSetsOneVector := by
  refine fun s v svc h hhost => ⟨fun hidle => ?_, fun intIp id fs hcallback => ?_⟩
  · exact ⟨_, (step_idle hidle).trans (idleTurn_setInterruptHandler hhost), lookup_register_self .., fun w hw =>
      lookup_register_ne s.intTable svc hw, rfl⟩
  · rw [step_service hcallback, State.serviceTurn, State.callbackTurn, State.nextCall, hhost]
    rfl

/-! ## Scope: runs of several steps -/

theorem coreRun_next {M : Host.Core} {s t : M.State} (h : M.step s = .next t) (k : Nat) :
    M.run (k + 1) s = M.run k t := by
  rw [Host.Core.run, h]

theorem run_next {s t : State} (h : step s = .next t) (k : Nat) :
    Host.Core.run Sys2Proof.core (k + 1) s = Host.Core.run Sys2Proof.core k t :=
  coreRun_next (M := Sys2Proof.core) h k

/-! ### The COM-style launch -/

theorem idleTurn_load {s : State} {addr : Nat} {bytes : List Byte} {h : List HostCall}
    (hhost : s.host = .load addr bytes :: h) (hfit : addr + bytes.length ≤ Config.memSize) :
    s.idleTurn = .next { s with mem := Memory.setBytes s.mem addr bytes, host := h } := by
  rw [State.idleTurn, State.nextCall, hhost]
  exact if_pos hfit

/-- An image leaves every address above it alone. -/
theorem byte_setBytes_of_ge (m : Memory) {p a : Nat} (bs : List Byte) (h : p + bs.length ≤ a) :
    Memory.byte (Memory.setBytes m p bs) a = Memory.byte m a := by
  induction bs generalizing m p with
  | nil => rfl
  | cons b bs ih =>
    simp only [List.length_cons] at h
    rw [Memory.setBytes, ih _ (by omega), Memory.byte_setByte_ne _ _ (by omega)]

/-- An image reads back byte by byte. -/
theorem byte_setBytes_inside {m : Memory} (hw : Memory.wf m = true) {p k : Nat} {bs : List Byte}
    (hfit : p + bs.length ≤ Config.memSize) (hk : k < bs.length) :
    some (Memory.byte (Memory.setBytes m p bs) (p + k)) = bs[k]? := by
  induction bs generalizing m p k with
  | nil => exact absurd hk (Nat.not_lt_zero k)
  | cons b bs ih =>
    simp only [List.length_cons] at hfit hk
    cases k with
    | zero =>
      rw [Nat.add_zero, Memory.setBytes, Memory.byte_setBytes_of_lt _ _ (by omega), Memory.byte_setByte_self b hw]; rfl
    | succ k =>
      have hrest := ih (Memory.wf_setByte (a := p) b hw (by omega)) (p := p + 1) (k := k) (by omega) (by omega)
      rw [Memory.setBytes, List.getElem?_cons_succ, ← hrest]
      congr 2
      omega

/-- The state after the launch. -/
def launched (image : List Byte) : State :=
  { State.reset with
    gpr := { State.reset.gpr with sp := 0x00FE }
    ip := 0x100
    mem := Memory.setBytes [] 0x100 image
    intTable := [(0x21, .dos21)]
    frames := [.run 65536] }

/-- The six calls of the launch, one step each; only the load depends on the image. -/
theorem run_comLaunch {image : List Byte} (hfit : 0x100 + image.length ≤ Config.memSize) :
    Host.Core.run Sys2Proof.core 6 { State.reset with host := comLaunch image } = .next (launched image) := by
  rw [run_next ((step_idle rfl).trans (idleTurn_load rfl hfit))]
  rfl

/-- Settles O58: after the six calls the state is `launched image`. -/
theorem comLaunch : Obligations.ComLaunch := by
  refine fun image hfit => ⟨launched image, run_comLaunch hfit, fun k hk => byte_setBytes_inside rfl hfit hk,
    fun a ha => ?_, rfl, rfl, rfl, fun v => ?_, rfl, rfl, rfl, rfl⟩
  · obtain hlt | hge := ha
    · exact Memory.byte_setBytes_of_lt [] image hlt
    · exact byte_setBytes_of_ge [] image hge
  · simp only [launched, IntTable.lookup, eq_comm (a := (0x21 : Byte))]

/-! ### INT 21h AH = 09h -/

theorem step_dosString_byte {s : State} {intIp : Int} {off : Word} {fs : List Frame}
    (hf : s.frames = .service intIp (.dosString off) :: fs) (hfit : phys (s.seg .ds) off + 1 ≤ Config.memSize)
    (hne : Memory.byte s.mem (phys (s.seg .ds) off) ≠ dosTerminator) :
    step s = .next { s with
      sink := s.sink ++ [Memory.byte s.mem (phys (s.seg .ds) off)]
      frames := .service intIp (.dosString (off + 1)) :: fs } := by
  have hread : s.getInDs off = .ok (Memory.byte s.mem (phys (s.seg .ds) off)) :=
    (State.read8_eq ..).trans (if_pos hfit)
  rw [step_service hf, State.serviceTurn, State.dosString, hread]
  simp only [if_neg hne, State.setActivation, hf, List.tail_cons]

theorem step_dosString_end {s : State} {intIp : Int} {off : Word} {fs : List Frame}
    (hf : s.frames = .service intIp (.dosString off) :: fs) (hfit : phys (s.seg .ds) off + 1 ≤ Config.memSize)
    (heq : Memory.byte s.mem (phys (s.seg .ds) off) = dosTerminator) :
    step s = .next { s with ip := intIp + 2, frames := fs } := by
  have hread : s.getInDs off = .ok (Memory.byte s.mem (phys (s.seg .ds) off)) :=
    (State.read8_eq ..).trans (if_pos hfit)
  rw [step_service hf, State.serviceTurn, State.dosString, hread]
  simp only [if_pos heq, State.serviceReturn, State.resumeAfterInt, hf, List.tail_cons]

theorem step_dosString_outside {s : State} {intIp : Int} {off : Word} {fs : List Frame}
    (hf : s.frames = .service intIp (.dosString off) :: fs) (hout : Config.memSize < phys (s.seg .ds) off + 1) :
    step s = .fault (.addressOutOfRange (phys (s.seg .ds) off)) := by
  have hread : s.getInDs off = .error (.addressOutOfRange (phys (s.seg .ds) off)) :=
    (State.read8_eq ..).trans (if_neg (by omega))
  rw [step_service hf, State.serviceTurn, State.dosString, hread]

/-- The bytes of the string and its `$` stand at `DS:off` on, offsets wrapping modulo 2^16. -/
def StringAt (s : State) (off : Word) (text : List Byte) : Prop :=
  ∀ k, k ≤ text.length → phys (s.seg .ds) (off + BitVec.ofNat 16 k) + 1 ≤ Config.memSize ∧
    some (Memory.byte s.mem (phys (s.seg .ds) (off + BitVec.ofNat 16 k))) = (text ++ [dosTerminator])[k]?

theorem StringAt.tail {s : State} {off : Word} {b : Byte} {text : List Byte} (h : StringAt s off (b :: text)) :
    StringAt s (off + 1) text := by
  intro k hk
  have hoff : off + 1 + BitVec.ofNat 16 k = off + BitVec.ofNat 16 (k + 1) := by
    rw [Nat.add_comm k 1, BitVec.ofNat_add, ← BitVec.add_assoc]; rfl
  rw [hoff]
  exact h (k + 1) (by simpa using hk)

theorem StringAt.head {s : State} {off : Word} {text : List Byte} (h : StringAt s off text) :
    phys (s.seg .ds) off + 1 ≤ Config.memSize ∧
      some (Memory.byte s.mem (phys (s.seg .ds) off)) = (text ++ [dosTerminator])[0]? := by
  simpa only [BitVec.ofNat_eq_ofNat, BitVec.add_zero] using h 0 (Nat.zero_le _)

/-- The service writes the whole string and returns, one step for each byte and one for the `$`. -/
theorem run_dosString {text : List Byte} {s : State} {intIp : Int} {off : Word} {fs : List Frame}
    (hf : s.frames = .service intIp (.dosString off) :: fs) (hnone : dosTerminator ∉ text)
    (hstr : StringAt s off text) :
    Host.Core.run Sys2Proof.core (text.length + 1) s =
      .next { s with ip := intIp + 2, frames := fs, sink := s.sink ++ text } := by
  induction text generalizing s off with
  | nil =>
    obtain ⟨hfit, hbyte⟩ := hstr.head
    rw [List.length_nil, run_next (step_dosString_end hf hfit (Option.some.inj hbyte)), List.append_nil]
    rfl
  | cons b text ih =>
    obtain ⟨hfit, hbyte⟩ := hstr.head
    have hb : Memory.byte s.mem (phys (s.seg .ds) off) = b := Option.some.inj hbyte
    simp only [List.mem_cons, not_or] at hnone
    rw [List.length_cons, run_next (step_dosString_byte hf hfit (hb ▸ Ne.symm hnone.1))]
    refine (ih rfl hnone.2 ?_).trans ?_
    · exact hstr.tail
    · simp [hb]

/-- An INT that stands at `ip` of a run enters its service in one step. -/
theorem step_int {s : State} {v : Byte} {svc : Service} (hrun : Running s) (hbytes : BytesAtIp s [0xCD, v])
    (hsvc : IntTable.lookup s.intTable v = some svc) : step s = .next (s.enterService svc) := by
  rw [stepRunsTheInstructionInMemory s (.int v) hrun rfl hbytes, exec_int, execInt, hsvc]

theorem step_dosEntry_write {s : State} {intIp : Int} {fs : List Frame} (hf : s.frames = .service intIp .dosEntry :: fs)
    (hah : s.reg8 .ah = 0x09) :
    step s = .next { s with frames := .service intIp (.dosString (s.reg16 .dx)) :: fs } := by
  rw [step_service hf, State.serviceTurn, State.dosEntry, hah]
  show Host.Outcome.next (s.setActivation intIp (.dosString (s.reg16 .dx))) = _
  rw [State.setActivation, hf]
  rfl

/-- Settles O60: the INT, the dispatch, and then the string by induction on its length (`run_dosString`). -/
theorem int21WritesTheString : Obligations.Int21WritesTheString := by
  refine ⟨fun s text hrun hbytes hsvc hah hnone hstr => ?_, fun s intIp off fs hf hout =>
    step_dosString_outside hf hout⟩
  rw [run_next (step_int hrun hbytes hsvc), run_next (step_dosEntry_write (State.enterService_frames s .dos21) hah)]
  refine run_dosString rfl hnone ?_
  exact hstr

end Sys2Proof.Proofs

namespace Sys2Proof.Proofs

open Sys2Proof.Machine Sys2Proof.Statements

/-! ## Scope: how a run ends -/

/-- The bound reached in an outermost run. -/
theorem step_bound_outermost {s : State} {e : Int} (hf : s.frames = [.run e]) (he : e ≤ s.ip) :
    step s = .next { s with frames := [], result := some .completed } := by
  rw [step_bound hf he, State.completeRun, hf]; rfl

/-- The bound reached in a nested run. -/
theorem step_bound_nested {s : State} {e : Int} {f : Frame} {fs : List Frame} (hf : s.frames = .run e :: f :: fs)
    (he : e ≤ s.ip) : step s = .next { s with frames := f :: fs } := by
  rw [step_bound hf he, State.completeRun, hf]

theorem runToEnd_ended {s t : State} {r : RunResult} (h : step s = .next t) (hf : t.frames = [])
    (hr : t.result = some r) (fuel : Nat) : runToEnd (fuel + 1) s = some (r, t) := by
  rw [runToEnd, h]
  simp only [hf, hr, if_true, Option.map_some]

theorem runToEnd_goes_on {s t : State} (h : step s = .next t) (hf : t.frames ≠ []) (fuel : Nat) :
    runToEnd (fuel + 1) s = runToEnd fuel t := by
  rw [runToEnd, h]
  exact if_neg hf

/-- A fatal of a run leaves everything but the frames, the result and the host's call that raised it. -/
theorem endFatal_of_run {s : State} (h : s.frames ≠ []) (f : Fault) :
    s.endFatal f = { s with frames := [], result := some (.fatal f), host := (s.endFatal f).host } := by
  rw [State.endFatal, if_neg h]

/-- After a fatal the host's next `Execute` starts over the preserved state (R350). -/
theorem session_execute_after_fatal {s : State} {f : Fault} {a b : Int} {h : List HostCall} (hstep : step s = .fault f)
    (hhost : (s.endFatal f).host = .execute a b :: h) :
    session 2 s = some { s.endFatal f with ip := a, frames := [.run b], host := h } := by
  rw [session_fault hstep, session_next (step_common (.inl rfl) hhost rfl)]
  rfl

/-- A step that ends the outermost run records Completed or Exited. -/
theorem result_of_last_step {s t : State} (hw : framesWf s.frames = true) (hf : s.frames ≠ []) (h : step s = .next t)
    (ht : t.frames = []) : t.result = some .completed ∨ t.result = some .exited := by
  obtain ⟨hidle, -⟩ | ⟨e, fs, hrun, rfl | ⟨i, hx⟩⟩ | ⟨intIp, act, fs, hservice, hturn⟩ := step_next_cases h
  · exact absurd hidle hf
  · unfold State.completeRun at ht ⊢
    split at ht
    · cases ht
    · exact .inl rfl
  · obtain hadv | ⟨-, hkeep⟩ | ⟨v, svc, -, -, rfl⟩ := exec_next_cases hx
    · exact absurd (hadv.outside.2.1.symm.trans ht) hf
    · exact absurd (hkeep.outside.2.1.symm.trans ht) hf
    · cases ht
  · rw [hservice] at hw
    obtain e | ⟨b, e⟩ | ⟨act', e⟩ | e | ⟨-, hres⟩ := (serviceTurn_keeps hturn).frames
    · exact absurd (e.symm.trans ht) hf
    · cases e.symm.trans ht
    · cases e.symm.trans ht
    · rw [hservice] at e
      cases e.symm.trans ht
      cases hw
    · exact .inr hres

/-- A run that ends Fatal came to a step that faulted, and the state is the one that step leaves. -/
theorem runToEnd_fatal {fuel : Nat} {s t : State} {f : Fault} (hw : framesWf s.frames = true) (hf : s.frames ≠ [])
    (h : runToEnd fuel s = some (.fatal f, t)) :
    ∃ n u, Host.Core.run Sys2Proof.core n s = .next u ∧ step u = .fault f ∧ t = u.endFatal f := by
  induction fuel generalizing s with
  | zero => cases h
  | succ fuel ih =>
    cases hstep : step s with
    | fault f' =>
      rw [runToEnd_fault hstep] at h
      cases h
      exact ⟨0, s, rfl, hstep, rfl⟩
    | refused r => rw [runToEnd, hstep] at h; cases h
    | next s' =>
      by_cases ht : s'.frames = []
      · obtain hres | hres := result_of_last_step hw hf hstep ht <;>
          (rw [runToEnd_ended hstep ht hres] at h; cases h)
      · rw [runToEnd_goes_on hstep ht] at h
        obtain ⟨n, u, hrun, hfault, rfl⟩ := ih (step_keeps_framesWf hw hstep) ht h
        exact ⟨n + 1, u, (run_next hstep n).trans hrun, hfault, rfl⟩

/-- Settles O8: the two ends at the bound, the empty range, the fatal of a step, and (`runToEnd_fatal`) that no other
thing ends a run Fatal. -/
theorem boundReachedEndsTheRun : Obligations.BoundReachedEndsTheRun := by
  refine ⟨fun s e he => ⟨fun hf => step_bound_outermost hf he, fun f fs hf => step_bound_nested hf he⟩,
    fun s fuel a b hf hba => ?_, fun s f hstep hf => ⟨⟨_, endFatal_of_run hf f, fun hact => ?_, fun hno => ?_⟩,
      runToEnd_fault hstep, fun a b h hhost => session_execute_after_fatal hstep hhost⟩, fun fuel a b s t f hf h => ?_⟩
  · have hstart : (s.startRun a b).frames = [.run b] := by rw [State.startRun_frames, hf]
    rw [execute, runToEnd_ended (step_bound_outermost hstart hba) rfl rfl, hf]
    rfl
  · exact State.endFatal_host_of_turn (hostTurn_of_hostActs hact) f
  · exact State.endFatal_host_of_core (Bool.eq_false_iff.mpr fun h => hno ((State.hostTurn_iff s).mp h)) f
  · exact runToEnd_fatal (by rw [State.startRun_frames, hf]; rfl) (List.cons_ne_nil _ _) h

end Sys2Proof.Proofs

namespace Sys2Proof.Proofs

open Sys2Proof.Machine Sys2Proof.Statements

/-! ## Scope: physical addresses and accesses -/

/-- No segment and offset reach beyond `FFFF:FFFF` (R72). -/
theorem phys_le (seg off : Word) : phys seg off ≤ 0x10FFEF := by
  have hseg := seg.isLt
  have hoff := off.isLt
  unfold phys
  omega

/-- Settles O22: the sum is `phys` itself, and its bound is that of the two words. -/
theorem physicalAddress : Obligations.PhysicalAddress :=
  fun seg off => ⟨rfl, phys_le seg off, rfl, rfl⟩

/-- Settles O23: every access checks its range first, and a word is its two bytes. -/
theorem accessRange : Obligations.AccessRange := by
  refine fun s p => ⟨State.read8_eq s p, State.read16_eq s p, State.read32_eq s p, fun v h => ?_, fun v h => ?_⟩
  · rw [State.write8_eq, if_neg (Nat.not_le.mpr h)]
  · rw [State.write16_eq, if_neg (Nat.not_le.mpr h)]

/-- The low byte of a word written is at its address (R79). -/
theorem byte_setWord_low {m : Memory} (hw : Memory.wf m = true) (p : Nat) (v : Word) :
    Memory.byte (Memory.setWord m p v) p = lowByte v := by
  rw [Memory.setWord, Memory.byte_setByte_ne _ _ (Nat.ne_of_lt p.lt_succ_self), Memory.byte_setByte_self _ hw]

/-- The high byte of a word written is at the next address (R79). -/
theorem byte_setWord_high {m : Memory} (hw : Memory.wf m = true) {p : Nat} (hp : p < Config.memSize) (v : Word) :
    Memory.byte (Memory.setWord m p v) (p + 1) = highByte v :=
  Memory.byte_setByte_self _ (Memory.wf_setByte _ hw hp)

/-- A word written reads back (R80). -/
theorem word_setWord_self {m : Memory} (hw : Memory.wf m = true) {p : Nat} (hp : p < Config.memSize) (v : Word) :
    Memory.word (Memory.setWord m p v) p = v := by
  rw [Memory.word, byte_setWord_low hw, byte_setWord_high hw hp, wordOfBytes_low_high]

/-- Settles O24: the access fits, so the write is `Memory.setByte` or `Memory.setWord`. -/
theorem littleEndianWrite : Obligations.LittleEndianWrite := by
  refine fun s p hw => ⟨fun v hfit => ?_, fun v hfit => ?_⟩
  · exact ⟨_, (State.write8_eq s p v).trans (if_pos hfit), Memory.wf_setByte v hw hfit, Memory.byte_setByte_self v hw,
      memoryBut_setByte rfl⟩
  · have hp : p < Config.memSize := by omega
    refine ⟨_, (State.write16_eq s p v).trans (if_pos hfit), Memory.wf_setWord v hw hfit, byte_setWord_low hw p v,
      byte_setWord_high hw hp v, ?_, memoryBut_setWord rfl⟩
    rw [State.read16_eq, if_pos hfit, State.setMem_mem, word_setWord_self hw hp]

end Sys2Proof.Proofs

namespace Sys2Proof.Proofs

open Sys2Proof.Machine Sys2Proof.Statements

/-! ## Scope: the effective-address table -/

/-- The base expressions that contain BP, by the `rm` field (R106). -/
theorem hasBp_ofCode (c : BitVec 3) :
    Base.hasBp (Base.ofCode c) = true ↔ c.toNat = 2 ∨ c.toNat = 3 ∨ c.toNat = 6 := by
  revert c; decide

/-- The memory form that the decoder reads is the rm side in both register spaces (R105). -/
theorem decodeRM_of_decodeMem {R : Type} {ofCode : BitVec 3 → R} {m : Byte} {bs : List Byte} {mf : MemForm}
    (hm : modField m ≠ 3#2) (h : decodeMem (modField m) (rmField m) bs = .ok mf) :
    decodeRM ofCode m bs = .ok (.mem mf) := by
  rw [decodeRM, if_neg hm, h]; rfl

/-- The four kinds of memory form that the decoder can read, where all the bytes it may want are there (R106, R107). -/
theorem decodeMem_cases {mod : BitVec 2} (rm : BitVec 3) (hm : mod ≠ 3#2) (op m d0 d1 : Byte) (tail : List Byte) :
    ∃ mf, decodeMem mod rm (op :: m :: d0 :: d1 :: tail) = .ok mf ∧
      ((mod.toNat = 0 ∧ rm.toNat = 6 ∧ mf = .direct (d1 ++ d0)) ∨
       (mod.toNat = 0 ∧ rm.toNat ≠ 6 ∧ mf = .base (Base.ofCode rm)) ∨
       (mod.toNat = 1 ∧ mf = .disp8 (Base.ofCode rm) d0) ∨
       (mod.toNat = 2 ∧ mf = .disp16 (Base.ofCode rm) (d1 ++ d0))) := by
  have mods : ∀ c : BitVec 2, c ≠ 3#2 → c = 0#2 ∨ c = 1#2 ∨ c = 2#2 := by decide
  obtain rfl | rfl | rfl := mods mod hm
  · by_cases hrm : rm = 6#3
    · subst hrm
      exact ⟨_, rfl, .inl ⟨rfl, rfl, rfl⟩⟩
    · exact ⟨_, if_neg hrm, .inr (.inl ⟨rfl, fun h => hrm (BitVec.eq_of_toNat_eq h), rfl⟩)⟩
  · exact ⟨_, rfl, .inr (.inr (.inl ⟨rfl, rfl⟩))⟩
  · exact ⟨_, rfl, .inr (.inr (.inr ⟨rfl, rfl⟩))⟩

/-- Settles O5: by the form that the decoder reads; the base expression and its segment are those of the `rm` field. -/
theorem effectiveAddressTable : Obligations.EffectiveAddressTable := by
  intro op m d0 d1 tail g hm mod rm base
  have hbase : baseValue g (Base.ofCode (rmField m)) = base := by
    have hrm : (rmField m).toNat = rm := rfl
    rw [Base.ofCode, hrm]
    simp only [base]
    generalize rm = k
    match k with
    | 0 | 1 | 2 | 3 | 4 | 5 | 6 | _ + 7 => rfl
  have hseg : (if Base.hasBp (Base.ofCode (rmField m)) then SReg.ss else .ds) =
      if rm = 2 ∨ rm = 3 ∨ rm = 6 then .ss else .ds := ite_congr (propext (hasBp_ofCode _)) (fun _ => rfl) fun _ => rfl
  obtain ⟨mf, hdec, hform⟩ := decodeMem_cases (mod := modField m) (rmField m) hm op m d0 d1 tail
  refine ⟨mf, decodeRM_of_decodeMem hm hdec, decodeRM_of_decodeMem hm hdec, ?_⟩
  obtain ⟨(hmod : mod = 0), (hrm : rm = 6), rfl⟩ | ⟨(hmod : mod = 0), (hrm : rm ≠ 6), rfl⟩ | ⟨(hmod : mod = 1), rfl⟩ |
    ⟨(hmod : mod = 2), rfl⟩ := hform
  · simp [hmod, hrm, effAddr, MemForm.len, operandSeg]
  · simp [hmod, hrm, effAddr, MemForm.len, operandSeg, hbase, hseg]
  · simp [hmod, effAddr, sext16, MemForm.len, operandSeg, hbase, hseg]
  · simp [hmod, effAddr, MemForm.len, operandSeg, hbase, hseg]

end Sys2Proof.Proofs

namespace Sys2Proof.Proofs

open Sys2Proof.Machine Sys2Proof.Statements

/-! ## Scope: what stops an instruction -/

/-- The fatal of an access of at most four bytes at a physical address, not all inside memory (R76, R344). -/
def AccessFault (f : Fault) : Prop :=
  ∃ p n : Nat, f = .addressOutOfRange p ∧ n ≤ 4 ∧ Config.memSize < p + n ∧ p ≤ 0x10FFEF

/-- The operation stops for nothing but an access. -/
structure StopsOnAccess {α : Type} (r : Except Fault α) : Prop where
  fault : ∀ f, r = .error f → AccessFault f

theorem stopsOnAccess_ok {α : Type} (a : α) : StopsOnAccess (.ok a) := ⟨fun _ h => nomatch h⟩

theorem StopsOnAccess.bind {α β : Type} {r : Except Fault α} {g : α → Except Fault β} (hr : StopsOnAccess r)
    (hg : ∀ a, StopsOnAccess (g a)) : StopsOnAccess (r >>= g) := by
  cases r with
  | error e => exact ⟨fun f h => hr.fault f (congrArg Except.error (Except.error.inj h))⟩
  | ok a => exact hg a

theorem StopsOnAccess.map {α β : Type} {r : Except Fault α} (hr : StopsOnAccess r) (g : α → β) :
    StopsOnAccess (r.map g) := by
  cases r with
  | error e => exact ⟨fun f h => hr.fault f (congrArg Except.error (Except.error.inj h))⟩
  | ok a => exact stopsOnAccess_ok (g a)

/-- The range check at a segment and an offset. -/
theorem stopsOnAccess_checkRange (seg off : Word) {n : Nat} (hn : n ≤ 4) :
    StopsOnAccess (checkRange (phys seg off) n) := by
  refine ⟨fun f h => ?_⟩
  rw [checkRange_eq] at h
  split at h
  · cases h
  next hout => exact ⟨phys seg off, n, (Except.error.inj h).symm, hn, Nat.not_le.mp hout, phys_le seg off⟩

/-! ### The shared operations -/

theorem stopsOnAccess_read16 (s : State) (seg off : Word) : StopsOnAccess (s.read16 (phys seg off)) :=
  (stopsOnAccess_checkRange seg off (by decide)).bind fun _ => stopsOnAccess_ok _

theorem stopsOnAccess_write16 (s : State) (seg off v : Word) : StopsOnAccess (s.write16 (phys seg off) v) :=
  (stopsOnAccess_checkRange seg off (by decide)).bind fun _ => stopsOnAccess_ok _

theorem stopsOnAccess_readRM8 (s : State) (rm : RM Reg8) : StopsOnAccess (s.readRM8 rm) := by
  cases rm with
  | reg r => exact stopsOnAccess_ok _
  | mem m => exact (stopsOnAccess_checkRange _ _ (by decide)).bind fun _ => stopsOnAccess_ok _

theorem stopsOnAccess_readRM16 (s : State) (rm : RM Reg16) : StopsOnAccess (s.readRM16 rm) := by
  cases rm with
  | reg r => exact stopsOnAccess_ok _
  | mem m => exact stopsOnAccess_read16 s _ _

theorem stopsOnAccess_writeRM8 (s : State) (rm : RM Reg8) (v : Byte) : StopsOnAccess (s.writeRM8 rm v) := by
  cases rm with
  | reg r => exact stopsOnAccess_ok _
  | mem m => exact (stopsOnAccess_checkRange _ _ (by decide)).bind fun _ => stopsOnAccess_ok _

theorem stopsOnAccess_writeRM16 (s : State) (rm : RM Reg16) (v : Word) : StopsOnAccess (s.writeRM16 rm v) := by
  cases rm with
  | reg r => exact stopsOnAccess_ok _
  | mem m => exact stopsOnAccess_write16 s _ _ v

/-- The rm-destination executor stops where its read or its write does. -/
theorem stopsOnAccess_execToRM {n : Nat} (s : State) {dst : Except Fault (BitVec n)} (src : BitVec n)
    {write : BitVec n → Except Fault State} (hread : StopsOnAccess dst) (hwrite : ∀ v, StopsOnAccess (write v))
    (res : BitVec n → BitVec n → BitVec n) (fl : BitVec n → BitVec n → Option StatusFlags) (commit : Bool) (len : Nat) :
    StopsOnAccess (s.execToRM dst src write res fl commit len) := by
  cases commit with
  | false => exact hread.bind fun _ => stopsOnAccess_ok _
  | true => exact hread.bind fun _ => (hwrite _).bind fun _ => stopsOnAccess_ok _

/-- The register-destination executor stops where its read does. -/
theorem stopsOnAccess_execToReg {n : Nat} (s : State) (dst : BitVec n) {src : Except Fault (BitVec n)}
    (hread : StopsOnAccess src) (write : BitVec n → State) (res : BitVec n → BitVec n → BitVec n)
    (fl : BitVec n → BitVec n → Option StatusFlags) (commit : Bool) (len : Nat) :
    StopsOnAccess (s.execToReg dst src write res fl commit len) :=
  hread.bind fun _ => stopsOnAccess_ok _

theorem stopsOnAccess_aluToRM8 (op : AluOp) (dst : RM Reg8) (src : Byte) (len : Nat) (s : State) :
    StopsOnAccess (aluToRM8 op dst src len s) :=
  stopsOnAccess_execToRM s src (stopsOnAccess_readRM8 s dst) (stopsOnAccess_writeRM8 s dst) ..

theorem stopsOnAccess_aluToRM16 (op : AluOp) (dst : RM Reg16) (src : Word) (len : Nat) (s : State) :
    StopsOnAccess (aluToRM16 op dst src len s) :=
  stopsOnAccess_execToRM s src (stopsOnAccess_readRM16 s dst) (stopsOnAccess_writeRM16 s dst) ..

theorem stopsOnAccess_movToRM8 (dst : RM Reg8) (src : Byte) (len : Nat) (s : State) :
    StopsOnAccess (movToRM8 dst src len s) :=
  stopsOnAccess_execToRM s src (stopsOnAccess_readRM8 s dst) (stopsOnAccess_writeRM8 s dst) ..

theorem stopsOnAccess_movToRM16 (dst : RM Reg16) (src : Word) (len : Nat) (s : State) :
    StopsOnAccess (movToRM16 dst src len s) :=
  stopsOnAccess_execToRM s src (stopsOnAccess_readRM16 s dst) (stopsOnAccess_writeRM16 s dst) ..

theorem stopsOnAccess_loadFar (sr : SReg) (dst : Reg16) (m : MemForm) (s : State) :
    StopsOnAccess (loadFar sr dst m s) :=
  ((stopsOnAccess_checkRange _ _ (by decide)).bind fun _ => stopsOnAccess_ok _).bind fun _ => stopsOnAccess_ok _

theorem stopsOnAccess_push (s : State) (v : Word) : StopsOnAccess (s.push v) := stopsOnAccess_write16 _ _ _ v

theorem stopsOnAccess_pop (s : State) : StopsOnAccess s.pop :=
  (stopsOnAccess_read16 s _ _).bind fun _ => stopsOnAccess_ok _

theorem stopsOnAccess_pushAll (s : State) (vs : List Word) : StopsOnAccess (s.pushAll vs) := by
  induction vs generalizing s with
  | nil => exact stopsOnAccess_ok s
  | cons v vs ih => exact (stopsOnAccess_push s v).bind ih

theorem stopsOnAccess_popAllRegs (s : State) : StopsOnAccess (popAllRegs s) := by
  have slot (k : Nat) : StopsOnAccess (s.stackSlot (s.reg16 .sp) k) := stopsOnAccess_read16 s _ _
  exact (slot 0).bind fun _ => (slot 1).bind fun _ => (slot 2).bind fun _ => (slot 3).bind fun _ =>
    (slot 4).bind fun _ => (slot 5).bind fun _ => (slot 6).bind fun _ => (slot 7).bind fun _ => stopsOnAccess_ok _

/-! ### Every instruction -/

/-- Everything an instruction can be: an operation that stops for nothing but an access, an instruction that always
completes, or INT. -/
theorem exec_cases (i : Instr) (s : State) :
    (∃ r, exec i s = toOutcome r ∧ StopsOnAccess r) ∨ (∃ t, exec i s = .next t) ∨ ∃ v, i = .int v := by
  cases i using byFamily with
  | aluRm8R8 op dst src => exact .inl ⟨_, exec_aluRm8R8 .., stopsOnAccess_aluToRM8 ..⟩
  | aluRm16R16 op dst src => exact .inl ⟨_, exec_aluRm16R16 .., stopsOnAccess_aluToRM16 ..⟩
  | aluR8Rm8 op dst src =>
    exact .inl ⟨_, exec_aluR8Rm8 .., stopsOnAccess_execToReg s _ (stopsOnAccess_readRM8 s src) ..⟩
  | aluR16Rm16 op dst src =>
    exact .inl ⟨_, exec_aluR16Rm16 .., stopsOnAccess_execToReg s _ (stopsOnAccess_readRM16 s src) ..⟩
  | aluAlImm8 op imm => exact .inl ⟨_, exec_aluAlImm8 .., stopsOnAccess_aluToRM8 ..⟩
  | aluAxImm16 op imm => exact .inl ⟨_, exec_aluAxImm16 .., stopsOnAccess_aluToRM16 ..⟩
  | aluRm8Imm8 op dst imm => exact .inl ⟨_, exec_aluRm8Imm8 .., stopsOnAccess_aluToRM8 ..⟩
  | aluRm16Imm16 op dst imm => exact .inl ⟨_, exec_aluRm16Imm16 .., stopsOnAccess_aluToRM16 ..⟩
  | aluRm16SImm8 op dst imm => exact .inl ⟨_, exec_aluRm16SImm8 .., stopsOnAccess_aluToRM16 ..⟩
  | movRm8R8 dst src => exact .inl ⟨_, exec_movRm8R8 .., stopsOnAccess_movToRM8 ..⟩
  | movRm16R16 dst src => exact .inl ⟨_, exec_movRm16R16 .., stopsOnAccess_movToRM16 ..⟩
  | movR8Rm8 dst src => exact .inl ⟨_, exec_movR8Rm8 .., (stopsOnAccess_readRM8 s src).map _⟩
  | movR16Rm16 dst src => exact .inl ⟨_, exec_movR16Rm16 .., (stopsOnAccess_readRM16 s src).map _⟩
  | movRm16Sreg dst src => exact .inl ⟨_, exec_movRm16Sreg .., stopsOnAccess_movToRM16 ..⟩
  | movSregRm16 dst src => exact .inl ⟨_, exec_movSregRm16 .., (stopsOnAccess_readRM16 s src).map _⟩
  | movR8Imm8 dst imm => exact .inr (.inl ⟨_, exec_movR8Imm8 ..⟩)
  | movR16Imm16 dst imm => exact .inr (.inl ⟨_, exec_movR16Imm16 ..⟩)
  | les dst src => exact .inl ⟨_, exec_les .., stopsOnAccess_loadFar ..⟩
  | lds dst src => exact .inl ⟨_, exec_lds .., stopsOnAccess_loadFar ..⟩
  | pushR16 src => exact .inl ⟨_, exec_pushR16 .., (stopsOnAccess_push s _).bind fun _ => stopsOnAccess_ok _⟩
  | pushSeg sr => exact .inl ⟨_, exec_pushSeg .., (stopsOnAccess_push s _).bind fun _ => stopsOnAccess_ok _⟩
  | popR16 dst => exact .inl ⟨_, exec_popR16 .., (stopsOnAccess_pop s).bind fun _ => stopsOnAccess_ok _⟩
  | popSeg sr i hi => exact .inl ⟨_, exec_popSeg hi s, (stopsOnAccess_pop s).bind fun _ => stopsOnAccess_ok _⟩
  | pusha => exact .inl ⟨_, exec_pusha s, (stopsOnAccess_pushAll s _).map _⟩
  | popa => exact .inl ⟨_, exec_popa s, stopsOnAccess_popAllRegs s⟩
  | ret => exact .inl ⟨_, exec_ret s, (stopsOnAccess_pop s).map _⟩
  | retImm16 imm => exact .inl ⟨_, exec_retImm16 imm s, (stopsOnAccess_pop s).map _⟩
  | jcc c disp => exact .inr (.inl ⟨_, exec_jcc c disp s⟩)
  | int v => exact .inr (.inr ⟨v, rfl⟩)

/-- INT enters its service or stops because its vector is not registered (R330, R343). -/
theorem execInt_cases (v : Byte) (s : State) :
    (∃ svc, execInt v s = .next (s.enterService svc)) ∨ execInt v s = .fault (.unregisteredVector v s.ip) := by
  rw [execInt]
  split
  · exact .inr rfl
  · exact .inl ⟨_, rfl⟩

/-- Settles O17: an operation stops only at an access, and INT only at its vector; neither is a refusal. -/
theorem instructionsStopOnlyForAddressOrVector : Obligations.InstructionsStopOnlyForAddressOrVector := by
  intro i s
  obtain ⟨r, hr, hstop⟩ | ⟨t, ht⟩ | ⟨v, rfl⟩ := exec_cases i s
  · rw [hr]
    exact ⟨toOutcome_ne_refused r, fun f hf => .inl (hstop.fault f (toOutcome_fault.mp hf))⟩
  · rw [ht]
    exact ⟨nofun, nofun⟩
  · rw [exec_int]
    obtain ⟨svc, h⟩ | h := execInt_cases v s <;> rw [h]
    · exact ⟨nofun, nofun⟩
    · exact ⟨nofun, fun f hf => .inr ⟨v, rfl, (Host.Outcome.fault.inj hf).symm⟩⟩

end Sys2Proof.Proofs

namespace Sys2Proof.Proofs

open Sys2Proof.Machine Sys2Proof.Statements

/-! ## Scope: operands and stack words outside memory -/

/-- Settles O36: each form accesses its operand before anything else, and that access stops. -/
theorem operandOutsideMemoryFaults : Obligations.OperandOutsideMemoryFaults := by
  refine fun s m i => ⟨fun hout hi => ?_, fun hout hi => ?_, fun hout hi => ?_⟩
  · have hno := Nat.not_le.mpr hout
    obtain ⟨op, ⟨src, rfl⟩ | ⟨imm, rfl⟩⟩ | ⟨op, r, rfl⟩ | ⟨r, rfl⟩ | ⟨r, rfl⟩ := hi
    · rw [exec_aluRm8R8, aluToRM8_mem, if_neg hno]; rfl
    · rw [exec_aluRm8Imm8, aluToRM8_mem, if_neg hno]; rfl
    · rw [exec_aluR8Rm8, aluToReg8_mem, if_neg hno]; rfl
    · rw [exec_movRm8R8, movToRM8_mem, if_neg hno]; rfl
    · rw [exec_movR8Rm8, State.readRM8_mem, State.read8_eq, if_neg hno]; rfl
  · have hno := Nat.not_le.mpr hout
    obtain ⟨op, ⟨src, rfl⟩ | ⟨imm, rfl⟩ | ⟨imm, rfl⟩⟩ | ⟨op, r, rfl⟩ | ⟨r, rfl⟩ | ⟨r, rfl⟩ | ⟨sr, rfl⟩ | ⟨sr, rfl⟩ := hi
    · rw [exec_aluRm16R16, aluToRM16_mem, if_neg hno]; rfl
    · rw [exec_aluRm16Imm16, aluToRM16_mem, if_neg hno]; rfl
    · rw [exec_aluRm16SImm8, aluToRM16_mem, if_neg hno]; rfl
    · rw [exec_aluR16Rm16, aluToReg16_mem, if_neg hno]; rfl
    · rw [exec_movRm16R16, movToRM16_mem, if_neg hno]; rfl
    · rw [exec_movR16Rm16, State.readRM16_mem, State.read16_eq, if_neg hno]; rfl
    · rw [exec_movRm16Sreg, movToRM16_mem, if_neg hno]; rfl
    · rw [exec_movSregRm16, State.readRM16_mem, State.read16_eq, if_neg hno]; rfl
  · have hno := Nat.not_le.mpr hout
    obtain ⟨r, rfl⟩ | ⟨r, rfl⟩ := hi
    · rw [exec_les, loadFar_eq, if_neg hno]; rfl
    · rw [exec_lds, loadFar_eq, if_neg hno]; rfl

/-! ### The stack -/

/-- A push whose word is inside memory goes on with the stack slots moved down by one. -/
theorem push_of_fits {s : State} (v : Word) (h : slotBelow s 1 + 2 ≤ Config.memSize) :
    ∃ u, s.push v = .ok u ∧ ∀ k, slotBelow u k = slotBelow s (k + 1) :=
  ⟨_, (State.push_eq s v).trans (if_pos h), slotBelow_after_push s _⟩

theorem push_outside {s : State} (v : Word) (h : Config.memSize < slotBelow s 1 + 2) :
    s.push v = .error (.addressOutOfRange (slotBelow s 1)) :=
  (State.push_eq s v).trans (if_neg (Nat.not_le.mpr h))

/-- A bulk push stops at its first word outside memory (R283, R349). -/
theorem pushAll_outside {vs : List Word} {s : State} {k : Nat} (hk : k < vs.length)
    (hbefore : ∀ j < k, slotBelow s (j + 1) + 2 ≤ Config.memSize) (hout : Config.memSize < slotBelow s (k + 1) + 2) :
    s.pushAll vs = .error (.addressOutOfRange (slotBelow s (k + 1))) := by
  induction vs generalizing s k with
  | nil => exact absurd hk (Nat.not_lt_zero k)
  | cons v vs ih =>
    cases k with
    | zero => rw [State.pushAll, push_outside v hout]; rfl
    | succ k =>
      obtain ⟨u, hpush, hslot⟩ := push_of_fits v (hbefore 0 (Nat.succ_pos k))
      rw [State.pushAll, hpush, ← hslot]
      refine ih (Nat.lt_of_succ_lt_succ hk) (fun j hj => ?_) ?_
      · rw [hslot]; exact hbefore (j + 1) (Nat.succ_lt_succ hj)
      · rw [hslot]; exact hout

/-- POPA stops at its first word outside memory (R284, R349). -/
theorem popAllRegs_outside {s : State} {k : Nat} (hk : k < 8)
    (hbefore : ∀ j < k, slotAbove s j + 2 ≤ Config.memSize) (hout : Config.memSize < slotAbove s k + 2) :
    popAllRegs s = .error (.addressOutOfRange (slotAbove s k)) := by
  have read (j : Nat) (hj : j < k) : s.stackSlot (s.reg16 .sp) j = .ok (Memory.word s.mem (slotAbove s j)) :=
    (State.stackSlot_eq ..).trans (if_pos (hbefore j hj))
  have stop : s.stackSlot (s.reg16 .sp) k = .error (.addressOutOfRange (slotAbove s k)) :=
    (State.stackSlot_eq ..).trans (if_neg (Nat.not_le.mpr hout))
  interval_cases k <;> simp [popAllRegs, bind, Except.bind, read, stop]

/-- Settles O45: a push and a pop access one word, PUSHA and POPA eight in their order. -/
theorem stackOutsideMemoryFaults : Obligations.StackOutsideMemoryFaults := by
  refine fun s => ⟨fun hout => ?_, fun hout => ?_, fun k h1 hk hbefore hout => ?_, fun k hk hbefore hout => ?_⟩
  · refine ⟨fun r => ?_, fun sr => ?_⟩
    · rw [exec_pushR16, pushValue, push_outside _ hout]; rfl
    · rw [exec_pushSeg, pushValue, push_outside _ hout]; rfl
  · rw [slotAbove_zero] at hout ⊢
    have pop : s.pop = .error (.addressOutOfRange (s.stackAddr (s.reg16 .sp))) :=
      (State.pop_eq s).trans (if_neg (Nat.not_le.mpr hout))
    refine ⟨fun r => ?_, fun sr i hi => ?_, ?_, fun n => ?_⟩
    · rw [exec_popR16, popTo, pop]; rfl
    · rw [exec_popSeg hi, popTo, pop]; rfl
    · rw [exec_ret, pop]; rfl
    · rw [exec_retImm16, pop]; rfl
  · obtain ⟨k, rfl⟩ : ∃ j, k = j + 1 := ⟨k - 1, by omega⟩
    rw [exec_pusha, pushAll_outside (Nat.lt_of_succ_le hk)
      (fun j hj => hbefore (j + 1) (Nat.le_add_left 1 j) (Nat.succ_lt_succ hj)) hout]
    rfl
  · rw [exec_popa, popAllRegs_outside hk hbefore hout]; rfl

end Sys2Proof.Proofs

namespace Sys2Proof.Proofs

open Sys2Proof.Machine Sys2Proof.Statements

/-! ## Scope: what the rules so far settle: reading back, sample words, the register-direct form, the immediate group -/

/-- Settles O1: `decode_encode_append`, by family of the instruction. -/
theorem decodeOfEncodeIsIdentity : Obligations.DecodeOfEncodeIsIdentity := decode_encode_append

/-- Settles O3: the decoder run on each word. -/
theorem sampleWordsDecode : Obligations.SampleWordsDecode := by
  unfold Obligations.SampleWordsDecode; decide

/-- Settles O4: `decodeRM` tests for mod 11 first, and the accessors of a register have no memory to touch. -/
theorem registerDirectOperand : Obligations.RegisterDirectOperand := by
  intro m bs hm
  have direct {R : Type} (ofCode : BitVec 3 → R) : decodeRM ofCode m bs = .ok (.reg (ofCode (rmField m))) := if_pos hm
  exact ⟨direct _, direct _, fun r => ⟨rfl, fun s v => ⟨rfl, s.setReg8 r v, rfl, rfl⟩⟩,
    fun r => ⟨rfl, fun s v => ⟨rfl, s.setReg16 r v, rfl, rfl⟩⟩⟩

/-- Settles O30: the rm side fits, so it is read and written without a fault; `sext16` is the signed value. -/
theorem aluGroupCompletes : Obligations.AluGroupCompletes := by
  refine fun op s => ⟨fun dst imm h => ?_, fun dst imm h => ?_, fun dst imm h => ?_⟩
  · rw [exec_aluRm8Imm8, toOutcome_next, aluToRM8_ok]; exact ⟨h, rfl⟩
  · rw [exec_aluRm16Imm16, toOutcome_next, aluToRM16_ok]; exact ⟨h, rfl⟩
  · rw [exec_aluRm16SImm8, toOutcome_next, aluToRM16_ok]; exact ⟨h, rfl⟩

end Sys2Proof.Proofs

namespace Sys2Proof.Proofs

open Sys2Proof.Machine Sys2Proof.Statements

/-! ## Scope: what the decoder accepts and what it refuses for its opcode

One postcondition for the decoder's parts. `Reads r P`: what `r` reads satisfies `P`, and `r` does not refuse for the
opcode. Only the dispatch table refuses for the opcode, on a byte that no instruction begins with. -/

/-- What `r` reads satisfies `P`; `r` does not refuse for the opcode. -/
def Reads {α : Type} (r : Except DecodeError α) (P : α → Prop) : Prop :=
  (∀ a, r = .ok a → P a) ∧ ∀ o, r ≠ .error (.opcode o)

section Reads

variable {α β : Type} {r : Except DecodeError α} {P : α → Prop} {Q : β → Prop}

theorem reads_ok {a : α} (h : P a) : Reads (.ok a) P := ⟨fun _ e => Except.ok.inj e ▸ h, nofun⟩

theorem reads_missing (k : Nat) : Reads (.error (.missing k)) P := ⟨nofun, nofun⟩

theorem reads_modrm (op m : Byte) : Reads (.error (.modrm op m)) P := ⟨nofun, nofun⟩

theorem Reads.bind {g : α → Except DecodeError β} (hr : Reads r P) (hg : ∀ a, P a → Reads (g a) Q) :
    Reads (r >>= g) Q := by
  cases r with
  | ok a => exact hg a (hr.1 a rfl)
  | error e => exact ⟨nofun, fun o h => hr.2 o (congrArg Except.error (Except.error.inj h))⟩

theorem Reads.map {f : α → β} (hr : Reads r P) (hf : ∀ a, P a → Q (f a)) : Reads (r.map f) Q :=
  hr.bind (g := fun a => .ok (f a)) fun a h => reads_ok (hf a h)

end Reads

/-! ### Fields -/

variable {bs : List Byte}

theorem drop_of_getElem? {k : Nat} {b : Byte} (h : bs[k]? = some b) : bs.drop k = b :: bs.drop (k + 1) := by
  obtain ⟨hk, rfl⟩ := List.getElem?_eq_some_iff.mp h
  exact List.drop_eq_getElem_cons hk

theorem reads_byteAt (k : Nat) : Reads (byteAt bs k) fun b => bs.drop k = [b] ++ bs.drop (k + 1) := by
  unfold byteAt
  split
  · exact reads_ok (drop_of_getElem? ‹_›)
  · exact reads_missing k

@[simp] theorem wordBytes_wordOfBytes (lo hi : Byte) : wordBytes (wordOfBytes lo hi) = [lo, hi] := by
  simp [wordBytes]

theorem reads_wordAt (k : Nat) : Reads (wordAt bs k) fun w => bs.drop k = wordBytes w ++ bs.drop (k + 2) := by
  unfold wordAt
  split
  next lo hi hlo hhi =>
    exact reads_ok (by rw [drop_of_getElem? hlo, drop_of_getElem? hhi, wordBytes_wordOfBytes]; rfl)
  next => exact reads_missing k

theorem wellFormed_base_ofCode {c : BitVec 3} (h : c ≠ 6#3) : (MemForm.base (Base.ofCode c)).wellFormed = true := by
  revert c; decide

/-- A memory form is read from its own encoding (R106, R107). -/
theorem reads_decodeMem {mod : BitVec 2} (hmod : mod ≠ 3#2) {reg rm : BitVec 3}
    (hm : bs.drop 1 = modrmByte mod reg rm :: bs.drop 2) :
    Reads (decodeMem mod rm bs) fun mf => mf.wellFormed = true ∧ bs.drop 1 = encodeMem reg mf ++ bs.drop mf.len := by
  have mods : ∀ c : BitVec 2, c ≠ 3#2 → c = 0#2 ∨ c = 1#2 ∨ c = 2#2 := by decide
  obtain rfl | rfl | rfl := mods mod hmod
  · by_cases hrm : rm = 6#3
    · subst hrm
      exact (reads_wordAt 2).map fun a h => ⟨rfl, by rw [hm, h]; rfl⟩
    · rw [show decodeMem 0#2 rm bs = .ok (.base (Base.ofCode rm)) from if_neg hrm]
      exact reads_ok ⟨wellFormed_base_ofCode hrm, by rw [hm, encodeMem, Base.code_ofCode]; rfl⟩
  · exact (reads_byteAt 2).map fun d h => ⟨rfl, by rw [hm, h, encodeMem, Base.code_ofCode]; rfl⟩
  · exact (reads_wordAt 2).map fun d h => ⟨rfl, by rw [hm, h, encodeMem, Base.code_ofCode]; rfl⟩

/-- The ModRM byte as its fields. -/
theorem drop_one_fields {m : Byte} (hm : bs.drop 1 = [m] ++ bs.drop 2) :
    bs.drop 1 = modrmByte (modField m) (regField m) (rmField m) :: bs.drop 2 := by rw [modrmByte_fields]; exact hm

/-- An rm side is read from its own encoding (R104, R105). -/
theorem reads_decodeRM {R : Type} {code : R → BitVec 3} {ofCode : BitVec 3 → R} (hc : ∀ c, code (ofCode c) = c)
    {m : Byte} (hm : bs.drop 1 = [m] ++ bs.drop 2) :
    Reads (decodeRM ofCode m bs) fun rm =>
      rm.wellFormed = true ∧ bs.drop 1 = encodeRM code (regField m) rm ++ bs.drop rm.len := by
  unfold decodeRM
  split
  next hmod =>
    refine reads_ok ⟨rfl, ?_⟩
    rw [drop_one_fields hm, hmod, encodeRM, hc]
    rfl
  next hmod => exact (reads_decodeMem hmod (drop_one_fields hm)).map fun _ h => h

/-! ### Formats -/

/-- The handler `dec` of the opcode `op` accepts encodings of well-formed instructions only, and refuses no bytes for
their opcode. -/
def Handles (op : Byte) (dec : List Byte → Except DecodeError Instr) : Prop :=
  ∀ tail, Reads (dec (op :: tail)) fun i => i.wellFormed = true ∧ ∃ rest, op :: tail = encode i ++ rest

variable {op : Byte}

theorem handles_none {i : Instr} (hi : i.wellFormed = true ∧ encode i = [op]) : Handles op fun _ => .ok i :=
  fun tail => reads_ok ⟨hi.1, tail, by rw [hi.2]; rfl⟩

theorem handles_i8 {mk : Byte → Instr} (hmk : ∀ v, (mk v).wellFormed = true ∧ encode (mk v) = [op, v]) :
    Handles op (decodeI8 mk) :=
  fun tail => (reads_byteAt 1).map fun v h => ⟨(hmk v).1, _, by rw [(hmk v).2]; exact congrArg (op :: ·) h⟩

theorem handles_i16 {mk : Word → Instr} (hmk : ∀ v, (mk v).wellFormed = true ∧ encode (mk v) = op :: wordBytes v) :
    Handles op (decodeI16 mk) :=
  fun tail => (reads_wordAt 1).map fun v h => ⟨(hmk v).1, _, by rw [(hmk v).2]; exact congrArg (op :: ·) h⟩

theorem handles_modrm {R : Type} {code : R → BitVec 3} {ofCode : BitVec 3 → R} (hc : ∀ c, code (ofCode c) = c)
    {mk : RM R → R → Instr}
    (hmk : ∀ rm r, (mk rm r).wellFormed = rm.wellFormed ∧ encode (mk rm r) = op :: encodeRM code (code r) rm) :
    Handles op (decodeModrm ofCode mk) :=
  fun tail => (reads_byteAt 1).bind fun m hm => (reads_decodeRM hc hm).bind fun rm ⟨hrm, h⟩ =>
    reads_ok ⟨(hmk ..).1.trans hrm, _, by rw [(hmk ..).2, hc]; exact congrArg (op :: ·) h⟩

/-- Format `MODRM` with the register side first. -/
theorem handles_modrmReg {R : Type} {code : R → BitVec 3} {ofCode : BitVec 3 → R} (hc : ∀ c, code (ofCode c) = c)
    {mk : R → RM R → Instr}
    (hmk : ∀ r rm, (mk r rm).wellFormed = rm.wellFormed ∧ encode (mk r rm) = op :: encodeRM code (code r) rm) :
    Handles op (decodeModrm ofCode fun rm r => mk r rm) :=
  handles_modrm hc fun rm r => hmk r rm

theorem sreg_code_of_ofCode {c : BitVec 3} {sr : SReg} (h : SReg.ofCode c = some sr) : sr.code = c := by
  revert sr c; decide

theorem handles_modrmSeg {mk : RM Reg16 → SReg → Instr}
    (hmk : ∀ rm sr, (mk rm sr).wellFormed = rm.wellFormed ∧ encode (mk rm sr) = op :: encodeRM Reg16.code sr.code rm) :
    Handles op (decodeModrmSeg op mk) := by
  refine fun tail => (reads_byteAt 1).bind fun m hm => ?_
  split
  next => exact reads_modrm op m
  next sr hsr =>
    exact (reads_decodeRM Reg16.code_ofCode hm).bind fun rm ⟨hrm, h⟩ =>
      reads_ok ⟨(hmk ..).1.trans hrm, _, by rw [(hmk ..).2, sreg_code_of_ofCode hsr]; exact congrArg (op :: ·) h⟩

theorem handles_far {mk : Reg16 → MemForm → Instr}
    (hmk : ∀ r mf, (mk r mf).wellFormed = mf.wellFormed ∧ encode (mk r mf) = op :: encodeMem r.code mf) :
    Handles op (decodeFar op mk) := by
  refine fun tail => (reads_byteAt 1).bind fun m hm => ?_
  split
  next => exact reads_modrm op m
  next hmod =>
    exact (reads_decodeMem hmod (drop_one_fields hm)).bind fun mf ⟨hmf, h⟩ =>
      reads_ok ⟨(hmk ..).1.trans hmf, _, by rw [(hmk ..).2, Reg16.code_ofCode]; exact congrArg (op :: ·) h⟩

/-- The immediate group: `imm` reads a value from its bytes `ib`. -/
theorem handles_group {R I : Type} {code : R → BitVec 3} {ofCode : BitVec 3 → R} (hc : ∀ c, code (ofCode c) = c)
    {imm : List Byte → Nat → Except DecodeError I} {ib : I → List Byte} {size : Nat}
    (himm : ∀ bs k, Reads (imm bs k) fun v => bs.drop k = ib v ++ bs.drop (k + size))
    {sub : BitVec 3 → RM R → I → Instr}
    (hsub : ∀ c rm v, (sub c rm v).wellFormed = rm.wellFormed ∧
      encode (sub c rm v) = op :: (encodeRM code c rm ++ ib v)) :
    Handles op (decodeGroup ofCode imm sub) :=
  fun tail => (reads_byteAt 1).bind fun m hm => (reads_decodeRM hc hm).bind fun rm ⟨hrm, h⟩ =>
    (himm ..).bind fun v hv => reads_ok ⟨(hsub ..).1.trans hrm, _, by
      rw [hv, ← List.append_assoc] at h
      rw [(hsub ..).2]
      exact congrArg (op :: ·) h⟩

theorem group80_encoding (c : BitVec 3) (rm : RM Reg8) (v : Byte) :
    (group80 c rm v).wellFormed = rm.wellFormed ∧
      encode (group80 c rm v) = 0x80 :: (encodeRM Reg8.code c rm ++ [v]) := by
  obtain ⟨k⟩ := c
  fin_cases k <;> exact ⟨rfl, rfl⟩

theorem group81_encoding (c : BitVec 3) (rm : RM Reg16) (v : Word) :
    (group81 c rm v).wellFormed = rm.wellFormed ∧
      encode (group81 c rm v) = 0x81 :: (encodeRM Reg16.code c rm ++ wordBytes v) := by
  obtain ⟨k⟩ := c
  fin_cases k <;> exact ⟨rfl, rfl⟩

theorem group83_encoding (c : BitVec 3) (rm : RM Reg16) (v : Byte) :
    (group83 c rm v).wellFormed = rm.wellFormed ∧
      encode (group83 c rm v) = 0x83 :: (encodeRM Reg16.code c rm ++ [v]) := by
  obtain ⟨k⟩ := c
  fin_cases k <;> exact ⟨rfl, rfl⟩

theorem handles_group80 : Handles 0x80 (decodeGroup Reg8.ofCode byteAt group80) :=
  handles_group Reg8.code_ofCode (ib := ([·])) (fun _ k => reads_byteAt k) group80_encoding

theorem handles_group81 : Handles 0x81 (decodeGroup Reg16.ofCode wordAt group81) :=
  handles_group Reg16.code_ofCode (fun _ k => reads_wordAt k) group81_encoding

theorem handles_group83 : Handles 0x83 (decodeGroup Reg16.ofCode byteAt group83) :=
  handles_group Reg16.code_ofCode (ib := ([·])) (fun _ k => reads_byteAt k) group83_encoding

end Sys2Proof.Proofs

namespace Sys2Proof.Proofs

open Sys2Proof.Machine Sys2Proof.Statements

/-! ## Scope: the dispatch table accepts encodings only

Every byte with a handler is the opcode of some instruction, so its handler is found by family of that instruction. -/

/-- The byte that an instruction begins with. -/
def opcodeOf (i : Instr) : Byte := (encode i).getD 0 0

/-- From the handler of an opcode to the dispatch table. -/
theorem handles_of_format {i : Instr} {op : Byte} {rest : List Byte} {dec : List Byte → Except DecodeError Instr}
    (he : encode i = op :: rest) (hd : ∀ bs, decodeOpcode op bs = dec bs) (h : Handles op dec) :
    Handles (opcodeOf i) (decodeOpcode (opcodeOf i)) := by
  have hop : opcodeOf i = op := by rw [opcodeOf, he]; rfl
  rw [hop]
  exact fun tail => hd _ ▸ h tail

/-- The dispatch table handles the opcode of every instruction (R114, R118). -/
theorem handles_opcodeOf (i : Instr) : Handles (opcodeOf i) (decodeOpcode (opcodeOf i)) := by
  cases i using byFamily with
  | aluRm8R8 op dst src =>
    cases op <;> exact handles_of_format (dec := decodeModrm Reg8.ofCode _) rfl (fun _ => rfl)
      (handles_modrm Reg8.code_ofCode fun _ _ => ⟨rfl, rfl⟩)
  | aluRm16R16 op dst src =>
    cases op <;> exact handles_of_format (dec := decodeModrm Reg16.ofCode _) rfl (fun _ => rfl)
      (handles_modrm Reg16.code_ofCode fun _ _ => ⟨rfl, rfl⟩)
  | aluR8Rm8 op dst src =>
    cases op <;> exact handles_of_format (dec := decodeModrm Reg8.ofCode _) rfl (fun _ => rfl)
      (handles_modrmReg Reg8.code_ofCode fun _ _ => ⟨rfl, rfl⟩)
  | aluR16Rm16 op dst src =>
    cases op <;> exact handles_of_format (dec := decodeModrm Reg16.ofCode _) rfl (fun _ => rfl)
      (handles_modrmReg Reg16.code_ofCode fun _ _ => ⟨rfl, rfl⟩)
  | aluAlImm8 op imm =>
    cases op <;> exact handles_of_format (dec := decodeI8 _) rfl (fun _ => rfl) (handles_i8 fun _ => ⟨rfl, rfl⟩)
  | aluAxImm16 op imm =>
    cases op <;> exact handles_of_format (dec := decodeI16 _) rfl (fun _ => rfl) (handles_i16 fun _ => ⟨rfl, rfl⟩)
  | aluRm8Imm8 op dst imm => cases op <;> exact handles_group80
  | aluRm16Imm16 op dst imm => cases op <;> exact handles_group81
  | aluRm16SImm8 op dst imm => cases op <;> exact handles_group83
  | movRm8R8 dst src =>
    exact handles_of_format (dec := decodeModrm Reg8.ofCode _) rfl (fun _ => rfl)
      (handles_modrm Reg8.code_ofCode fun _ _ => ⟨rfl, rfl⟩)
  | movRm16R16 dst src =>
    exact handles_of_format (dec := decodeModrm Reg16.ofCode _) rfl (fun _ => rfl)
      (handles_modrm Reg16.code_ofCode fun _ _ => ⟨rfl, rfl⟩)
  | movR8Rm8 dst src =>
    exact handles_of_format (dec := decodeModrm Reg8.ofCode _) rfl (fun _ => rfl)
      (handles_modrmReg Reg8.code_ofCode fun _ _ => ⟨rfl, rfl⟩)
  | movR16Rm16 dst src =>
    exact handles_of_format (dec := decodeModrm Reg16.ofCode _) rfl (fun _ => rfl)
      (handles_modrmReg Reg16.code_ofCode fun _ _ => ⟨rfl, rfl⟩)
  | movRm16Sreg dst src =>
    exact handles_of_format (dec := decodeModrmSeg _ _) rfl (fun _ => rfl) (handles_modrmSeg fun _ _ => ⟨rfl, rfl⟩)
  | movSregRm16 dst src =>
    exact handles_of_format (dec := decodeModrmSeg _ _) rfl (fun _ => rfl) (handles_modrmSeg fun _ _ => ⟨rfl, rfl⟩)
  | movR8Imm8 dst imm =>
    have read : Handles (0b10110#5 ++ dst.code) (decodeI8 (.movR8Imm8 dst)) := handles_i8 fun _ => ⟨rfl, rfl⟩
    exact handles_of_format rfl (fun _ => by cases dst <;> rfl) read
  | movR16Imm16 dst imm =>
    have read : Handles (0b10111#5 ++ dst.code) (decodeI16 (.movR16Imm16 dst)) := handles_i16 fun _ => ⟨rfl, rfl⟩
    exact handles_of_format rfl (fun _ => by cases dst <;> rfl) read
  | les dst src =>
    exact handles_of_format (dec := decodeFar _ _) rfl (fun _ => rfl) (handles_far fun _ _ => ⟨rfl, rfl⟩)
  | lds dst src =>
    exact handles_of_format (dec := decodeFar _ _) rfl (fun _ => rfl) (handles_far fun _ _ => ⟨rfl, rfl⟩)
  | pushR16 src =>
    exact handles_of_format rfl (fun _ => by cases src <;> rfl) (handles_none (i := .pushR16 src) ⟨rfl, rfl⟩)
  | popR16 dst =>
    exact handles_of_format rfl (fun _ => by cases dst <;> rfl) (handles_none (i := .popR16 dst) ⟨rfl, rfl⟩)
  | pusha => exact handles_none ⟨rfl, rfl⟩
  | popa => exact handles_none ⟨rfl, rfl⟩
  | ret => exact handles_none ⟨rfl, rfl⟩
  | retImm16 imm =>
    exact handles_of_format (dec := decodeI16 _) rfl (fun _ => rfl) (handles_i16 fun _ => ⟨rfl, rfl⟩)
  | int v =>
    exact handles_of_format (dec := decodeI8 _) rfl (fun _ => rfl) (handles_i8 fun _ => ⟨rfl, rfl⟩)
  | pushSeg sr => cases sr <;> exact handles_none ⟨rfl, rfl⟩
  | popSeg sr i hi => cases sr <;> cases hi <;> exact handles_none ⟨rfl, rfl⟩
  | jcc c disp =>
    cases c <;> exact handles_of_format (dec := decodeI8 _) rfl (fun _ => rfl) (handles_i8 fun _ => ⟨rfl, rfl⟩)

/-- A byte with a handler begins an instruction: the one it gives with zeros after it. -/
theorem implemented_zeros : ∀ op : Byte, implementedOpcode op = true →
    (decode [op, 0, 0, 0, 0, 0]).toOption.map opcodeOf = some op := by decide

theorem handles_implemented {op : Byte} (h : implementedOpcode op = true) : Handles op (decodeOpcode op) := by
  obtain ⟨i, -, rfl⟩ := Option.map_eq_some_iff.mp (implemented_zeros op h)
  exact handles_opcodeOf i

/-- The 137 other bytes reach the last arm of the table (R119, decision D22). -/
theorem decodeOpcode_unimplemented {op : Byte} (h : implementedOpcode op = false) (bs : List Byte) :
    decodeOpcode op bs = .error (.opcode op) := by
  unfold decodeOpcode
  split
  case h_120 => rfl
  all_goals
    next ho =>
      rw [implementedOpcode, ho] at h
      cases h

/-- Settles O2: a byte without a handler begins nothing, and the handler of any other accepts only encodings. -/
theorem encodeOfDecodeIsIdentity : Obligations.EncodeOfDecodeIsIdentity := by
  intro bs i hdecode
  cases bs with
  | nil => cases hdecode
  | cons op tail =>
    cases h : implementedOpcode op with
    | false => exact absurd (hdecode.symm.trans (decodeOpcode_unimplemented h _)) nofun
    | true => exact (handles_implemented h tail).1 i hdecode

end Sys2Proof.Proofs

namespace Sys2Proof.Proofs

open Sys2Proof.Machine Sys2Proof.Statements

/-! ## Scope: the refusals for the opcode and for the ModRM byte -/

/-- The window begins with the bytes that stand at `ip`. -/
theorem fetchWindow_of_bytesAtIp {s : State} {bs : List Byte} (hbytes : BytesAtIp s bs)
    (hlen : bs.length ≤ Config.maxInstrBytes) : ∃ rest, s.fetchWindow = bs ++ rest := by
  obtain ⟨hip, hfit, hmem⟩ := hbytes
  rw [State.fetchWindow, if_neg (Int.not_lt.mpr hip)]
  exact Memory.window_of_bytes s.mem bs s.ip.toNat Config.maxInstrBytes hfit hlen hmem

/-- A run whose decoder refuses stops with that refusal's fatal. -/
theorem step_of_refused {s : State} {e : DecodeError} (hrun : Running s) (h : decode s.fetchWindow = .error e) :
    step s = .fault (fetchFault s.ip e) := by
  obtain ⟨ipEnd, fs, hf, hip⟩ := hrun
  rw [step_run hf hip, runInstruction_of_error h]

theorem decode_opcode_iff (op : Byte) (rest : List Byte) :
    decode (op :: rest) = .error (.opcode op) ↔ implementedOpcode op = false := by
  refine ⟨fun hdecode => ?_, fun h => decodeOpcode_unimplemented h _⟩
  cases h : implementedOpcode op with
  | false => rfl
  | true => exact absurd hdecode ((handles_implemented h rest).2 op)

/-- Settles O10: the decoder refuses for the opcode exactly where there is no handler. -/
theorem unimplementedOpcodeFaults : Obligations.UnimplementedOpcodeFaults := by
  refine ⟨fun s hrun hip hend h => ?_, decode_opcode_iff, rfl⟩
  have hbytes : BytesAtIp s [Memory.byte s.mem s.ip.toNat] :=
    ⟨hip, by simp; omega, fun k => by cases k <;> simp⟩
  obtain ⟨rest, hwindow⟩ := fetchWindow_of_bytesAtIp hbytes (by simp [Config.maxInstrBytes])
  refine step_of_refused hrun (e := .opcode _) ?_
  rw [hwindow]
  exact (decode_opcode_iff _ rest).mpr h

theorem sreg_ofCode_eq_none {c : BitVec 3} (h : 4 ≤ c.toNat) : SReg.ofCode c = none := by
  revert c; decide

theorem decodeModrmSeg_refuses {m : Byte} (h : 4 ≤ (regField m).toNat) (op b : Byte)
    (mk : RM Reg16 → SReg → Instr) (rest : List Byte) :
    decodeModrmSeg op mk (b :: m :: rest) = .error (.modrm op m) := by
  have hnone := sreg_ofCode_eq_none h
  simp [decodeModrmSeg, byteAt, bind, Except.bind, hnone]

theorem decodeFar_refuses {m : Byte} (h : modField m = 3#2) (op b : Byte) (mk : Reg16 → MemForm → Instr)
    (rest : List Byte) : decodeFar op mk (b :: m :: rest) = .error (.modrm op m) := by
  simp [decodeFar, byteAt, bind, Except.bind, h]

/-- Settles O11: both handlers test the ModRM byte before they read on. -/
theorem unimplementedModRMFaults : Obligations.UnimplementedModRMFaults := by
  intro s op m hrun hbytes hsub
  obtain ⟨rest, hwindow⟩ := fetchWindow_of_bytesAtIp hbytes (by simp [Config.maxInstrBytes])
  refine step_of_refused hrun (e := .modrm op m) ?_
  rw [hwindow]
  obtain ⟨rfl | rfl, hreg⟩ | ⟨rfl | rfl, hmod⟩ := hsub
  · exact decodeModrmSeg_refuses hreg ..
  · exact decodeModrmSeg_refuses hreg ..
  · exact decodeFar_refuses hmod ..
  · exact decodeFar_refuses hmod ..

end Sys2Proof.Proofs

namespace Sys2Proof.Proofs

open Sys2Proof.Machine Sys2Proof.Statements

/-! ## Scope: the ALU functions

Carry and borrow are read off the unsigned wide result, as the model computes it. For the signed overflow the same
result is also the wrapped signed sum or difference (`sum_eq_ofInt`, `difference_eq_ofInt`), which leaves the signed
range by less than one turn (`toInt_ofInt_wrap`). -/

theorem ofInt_sub {n : Nat} (x y : Int) : BitVec.ofInt n (x - y) = BitVec.ofInt n x - BitVec.ofInt n y :=
  eq_sub_of_add_eq (by rw [← BitVec.ofInt_add, sub_add_cancel])

theorem inSigned_toInt {n : Nat} (a : BitVec n) : inSigned n a.toInt := ⟨a.le_toInt, a.toInt_lt⟩

theorem two_pow_eq_half_add_half {n : Nat} (hn : 0 < n) : (2 ^ n : Int) = 2 ^ (n - 1) + 2 ^ (n - 1) :=
  mod_cast (Nat.two_pow_pred_add_two_pow_pred hn).symm

/-- A value within one turn of the signed range wraps at most once. -/
theorem toInt_ofInt_wrap {n : Nat} (hn : 0 < n) {v : Int} (hlo : -2 ^ n - 2 ^ (n - 1) ≤ v)
    (hhi : v < 2 ^ n + 2 ^ (n - 1)) :
    (inSigned n v ∧ (BitVec.ofInt n v).toInt = v) ∨
    (2 ^ (n - 1) ≤ v ∧ (BitVec.ofInt n v).toInt = v - 2 ^ n) ∨
    (v < -2 ^ (n - 1) ∧ (BitVec.ofInt n v).toInt = v + 2 ^ n) := by
  have hhalf := two_pow_eq_half_add_half hn
  have hcast : ((2 ^ n : Nat) : Int) = 2 ^ n := by simp
  have inside {x : Int} (hl : -2 ^ (n - 1) ≤ x) (hu : x < 2 ^ (n - 1)) : x.bmod (2 ^ n) = x :=
    Int.bmod_eq_of_le_mul_two (by omega) (by omega)
  rw [BitVec.toInt_ofInt]
  by_cases hl : -2 ^ (n - 1) ≤ v
  · by_cases hu : v < 2 ^ (n - 1)
    · exact .inl ⟨⟨hl, hu⟩, inside hl hu⟩
    · refine .inr (.inl ⟨by omega, ?_⟩)
      rw [← Int.sub_bmod_right, hcast, inside] <;> omega
  · refine .inr (.inr ⟨by omega, ?_⟩)
    rw [← Int.add_bmod_right, hcast, inside] <;> omega

/-! ### Sums and differences -/

section SumsAndDifferences

variable {n k : Nat} (a b : BitVec n)

theorem sum_eq_ofInt : a + b + BitVec.ofNat n k = BitVec.ofInt n (a.toInt + b.toInt + k) := by
  simp [BitVec.ofInt_add]

theorem difference_eq_ofInt : a - b - BitVec.ofNat n k = BitVec.ofInt n (a.toInt - b.toInt - k) := by
  simp [ofInt_sub]

/-- The addition rule for OF is exact: equal operand signs and another sign of the sum mean that it wrapped (R141). -/
theorem sum_overflow_iff (hn : 0 < n) (hk : k ≤ 1) :
    (a.msb == b.msb && (a + b + BitVec.ofNat n k).msb != a.msb) = true ↔ ¬ inSigned n (a.toInt + b.toInt + k) := by
  have hhalf := two_pow_eq_half_add_half hn
  obtain ⟨⟨ha, ha'⟩, hb, hb'⟩ := And.intro (inSigned_toInt a) (inSigned_toInt b)
  have hwrap := toInt_ofInt_wrap hn (v := a.toInt + b.toInt + k) (by omega) (by omega)
  simp only [sum_eq_ofInt, BitVec.msb_eq_toInt, Bool.and_eq_true, beq_iff_eq, bne_iff_ne, ne_eq, decide_eq_decide,
    inSigned] at hwrap ⊢
  omega

/-- The subtraction rule for OF is exact: different operand signs and the sign of the subtrahend in the difference mean
that the difference wrapped (R143). -/
theorem difference_overflow_iff (hn : 0 < n) (hk : k ≤ 1) :
    (a.msb != b.msb && (a - b - BitVec.ofNat n k).msb != a.msb) = true ↔ ¬ inSigned n (a.toInt - b.toInt - k) := by
  have hhalf := two_pow_eq_half_add_half hn
  obtain ⟨⟨ha, ha'⟩, hb, hb'⟩ := And.intro (inSigned_toInt a) (inSigned_toInt b)
  have hwrap := toInt_ofInt_wrap hn (v := a.toInt - b.toInt - k) (by omega) (by omega)
  simp only [difference_eq_ofInt, BitVec.msb_eq_toInt, Bool.and_eq_true, bne_iff_ne, ne_eq, decide_eq_decide,
    inSigned] at hwrap ⊢
  omega

end SumsAndDifferences

/-! ### Zero, sign and parity of the result -/

theorem foldl_xor_eq_parity {α : Type} (p : α → Bool) (l : List α) (even : Bool) :
    l.foldl (fun e k => e ^^ p k) even = (even == ((l.filter p).length % 2 == 0)) := by
  induction l generalizing even with
  | nil => simp
  | cons x xs ih =>
    rw [List.foldl_cons, ih, List.filter_cons]
    cases p x
    · simp
    · rcases Nat.mod_two_eq_zero_or_one (xs.filter p).length with h | h <;> cases even <;> simp [Nat.add_mod, h]

theorem parity8_eq_evenLowByte {n : Nat} (res : BitVec n) : parity8 (res.setWidth 8) = evenLowByte res := by
  have hbit : ∀ k ∈ List.range 8, (res.setWidth 8).getLsbD k = res.getLsbD k := fun k hk => by
    simp [List.mem_range.mp hk]
  rw [evenLowByte, foldl_xor_eq_parity, parity8, List.filter_congr hbit, Bool.true_beq]

/-- ZF, SF and PF of every operation speak of the truncated result (R140; decision D9). -/
theorem aluFlags_of_result {n : Nat} (op : AluOp) (a b : BitVec n) (c : Bool) :
    ((aluFlags op a b c).ZF = true ↔ aluResult op a b c = 0) ∧
    ((aluFlags op a b c).SF = true ↔ (aluResult op a b c).toInt < 0) ∧
    (aluFlags op a b c).PF = evenLowByte (aluResult op a b c) :=
  ⟨beq_iff_eq, by simp [aluFlags, BitVec.msb_eq_toInt], parity8_eq_evenLowByte _⟩

theorem aluFlags_CF_iff {n : Nat} (op : AluOp) (a b : BitVec n) (c : Bool) :
    (aluFlags op a b c).CF = true ↔ aluWide op a b c < 0 ∨ 2 ^ n ≤ aluWide op a b c := decide_eq_true_iff

theorem carryIn_eq_toNat (c : Bool) : carryIn c = c.toNat := by cases c <;> rfl

/-- The carry that an operation counts, CF or none, is at most one. -/
theorem usedCarry_le_one {uses : Prop} [Decidable uses] (c : Bool) : (if uses then c.toNat else 0) ≤ 1 := by
  split
  · exact c.toNat_le
  · exact Nat.zero_le 1

/-! ### ADD and ADC -/

theorem aluWide_addition {n : Nat} {op : AluOp} (hop : op = .add ∨ op = .adc) (a b : BitVec n) (c : Bool) :
    aluWide op a b c = a.toNat + b.toNat + ((if op = .adc then c.toNat else 0 : Nat) : Int) := by
  obtain rfl | rfl := hop
  · exact (Int.add_zero _).symm
  · rw [aluWide, carryIn_eq_toNat, if_pos rfl]

/-- Settles O25: CF by the range of the wide sum, OF by `sum_overflow_iff`, the other flags by `aluFlags_of_result`. -/
theorem additionResultAndFlags : Obligations.AdditionResultAndFlags := by
  intro n a b c op hn hop k res fl
  have hk : k ≤ 1 := usedCarry_le_one c
  have hwide : aluWide op a b c = a.toNat + b.toNat + k := aluWide_addition hop a b c
  have hres : res = a + b + BitVec.ofNat n k := by simp [res, aluResult, hwide, BitVec.ofInt_add]
  have hCF : fl.CF = true ↔ 2 ^ n ≤ a.toNat + b.toNat + k := by
    have hcast : ((2 ^ n : Nat) : Int) = 2 ^ n := by simp
    rw [aluFlags_CF_iff, hwide]
    omega
  have hOF : fl.OF = (a.msb == b.msb && res.msb != a.msb) := by obtain rfl | rfl := hop <;> rfl
  refine ⟨hres, hCF, ?_, aluFlags_of_result op a b c⟩
  rw [hOF, hres, sum_overflow_iff a b (by omega) hk]

/-! ### SUB, SBB and CMP -/

theorem aluWide_subtraction {n : Nat} {op : AluOp} (hop : op = .sub ∨ op = .sbb ∨ op = .cmp) (a b : BitVec n)
    (c : Bool) : aluWide op a b c = a.toNat - b.toNat - ((if op = .sbb then c.toNat else 0 : Nat) : Int) := by
  obtain rfl | rfl | rfl := hop
  · exact (Int.sub_zero _).symm
  · rw [aluWide, carryIn_eq_toNat, if_pos rfl]
  · exact (Int.sub_zero _).symm

/-- Settles O26: CF by the range of the wide difference, which is never too large; OF by `difference_overflow_iff`, the
other flags by `aluFlags_of_result`. -/
theorem subtractionResultAndFlags : Obligations.SubtractionResultAndFlags := by
  intro n a b c op hn hop k res fl
  have hk : k ≤ 1 := usedCarry_le_one c
  have hwide : aluWide op a b c = a.toNat - b.toNat - k := aluWide_subtraction hop a b c
  have hres : res = a - b - BitVec.ofNat n k := by simp [res, aluResult, hwide, ofInt_sub]
  have hCF : fl.CF = true ↔ a.toNat < b.toNat + k := by
    have hlt : (a.toNat : Int) < 2 ^ n := mod_cast a.isLt
    rw [aluFlags_CF_iff, hwide]
    omega
  have hOF : fl.OF = (a.msb != b.msb && res.msb != a.msb) := by obtain rfl | rfl | rfl := hop <;> rfl
  refine ⟨hres, hCF, ?_, aluFlags_of_result op a b c⟩
  rw [hOF, hres, difference_overflow_iff a b (by omega) hk]

/-! ### AND, OR and XOR -/

/-- The wide result of a logical operation is a value of the operands' width already. -/
theorem aluWide_logic {n : Nat} {op : AluOp} (hop : op = .and ∨ op = .or ∨ op = .xor) (a b : BitVec n) (c : Bool) :
    aluWide op a b c = (aluResult op a b c).toNat := by
  obtain rfl | rfl | rfl := hop <;> simp [aluResult, aluWide]

/-- Settles O27: the wide result is in range (`aluWide_logic`), so CF = 0; the other flags by `aluFlags_of_result`. -/
theorem logicResultAndFlags : Obligations.LogicResultAndFlags := by
  intro n a b c op _ hop res fl
  have hwide : aluWide op a b c = res.toNat := aluWide_logic hop a b c
  have bitwise {r : BitVec n} (h : aluWide op a b c = r.toNat) : res = r := by simp [res, aluResult, h]
  have hCF : fl.CF = false := by
    have hlt : (res.toNat : Int) < 2 ^ n := mod_cast res.isLt
    rw [← Bool.not_eq_true, aluFlags_CF_iff, hwide]
    omega
  have hOF : fl.OF = false := by obtain rfl | rfl | rfl := hop <;> rfl
  exact ⟨fun h => bitwise (h ▸ rfl), fun h => bitwise (h ▸ rfl), fun h => bitwise (h ▸ rfl), hCF, hOF,
    aluFlags_of_result op a b c⟩

/-! ### The conditions after a comparison -/

/-- `SF ≠ OF` after CMP: the sign of the exact signed difference, wrapped or not (R300). -/
theorem aluFlags_cmp_less {n : Nat} (hn : n = 8 ∨ n = 16) (a b : BitVec n) (c : Bool) :
    ((aluFlags .cmp a b c).SF != (aluFlags .cmp a b c).OF) = decide (a.toInt < b.toInt) := by
  obtain ⟨hres, -, hOF, -, hSF, -⟩ := subtractionResultAndFlags n a b c .cmp hn (.inr (.inr rfl))
  have hpos : 0 < n := by omega
  have hhalf := two_pow_eq_half_add_half hpos
  obtain ⟨⟨ha, ha'⟩, hb, hb'⟩ := And.intro (inSigned_toInt a) (inSigned_toInt b)
  have hwrap := toInt_ofInt_wrap hpos (v := a.toInt - b.toInt) (by omega) (by omega)
  rw [hres, difference_eq_ofInt] at hSF
  simp only [reduceCtorEq, if_false, Int.natCast_zero, Int.sub_zero, inSigned] at hSF hOF hwrap
  rw [Bool.eq_iff_iff, bne_iff_ne, ne_eq, Bool.eq_iff_iff, hSF, hOF, decide_eq_true_iff]
  omega

/-- Settles O51: CF, ZF and `SF ≠ OF` after CMP are "below", "equal" and "less"; each condition is one of them, its
negation, or its union with equality. -/
theorem conditionsAfterCompare : Obligations.ConditionsAfterCompare := by
  intro n a b s hn f
  obtain ⟨hres, hCF, -, hZF, -, -⟩ := subtractionResultAndFlags n a b s.flags.CF .cmp hn (.inr (.inr rfl))
  have below : f.CF = decide (a.toNat < b.toNat) := by
    rw [Bool.eq_iff_iff, decide_eq_true_iff]; exact hCF
  have equal : f.ZF = decide (a = b) := by
    have hdiff : a - b - BitVec.ofNat n 0 = 0 ↔ a = b := by simpa using sub_eq_zero (a := a) (b := b)
    rw [hres] at hZF
    rw [Bool.eq_iff_iff, decide_eq_true_iff]
    exact hZF.trans hdiff
  have less : (f.SF != f.OF) = decide (a.toInt < b.toInt) := aluFlags_cmp_less hn a b s.flags.CF
  have notLess : (f.SF == f.OF) = !decide (a.toInt < b.toInt) := by rw [← less, bne, Bool.not_not]
  simp only [Cond.holds, below, equal, less, notLess, Bool.or_eq_true, Bool.and_eq_true, Bool.not_eq_true',
    decide_eq_true_iff, decide_eq_false_iff_not, not_lt, ne_eq, true_and]
  refine ⟨?belowOrEqual, ?above, ?lessOrEqual, ?greater⟩
  case belowOrEqual | above => rw [← BitVec.toNat_inj]; omega
  case lessOrEqual | greater => rw [← BitVec.toInt_inj]; omega

/-! ## Scope: the ALU instructions -/

/-- Settles O28: the rm side fits, so it is read (and written, where it is the destination) without a fault. -/
theorem aluRegRmCompletes : Obligations.AluRegRmCompletes := by
  refine fun op s => ⟨fun dst src h => ?_, fun dst src h => ?_, fun dst src h => ?_, fun dst src h => ?_⟩
  · rw [exec_aluRm8R8, toOutcome_next, aluToRM8_ok]; exact ⟨h, rfl⟩
  · rw [exec_aluRm16R16, toOutcome_next, aluToRM16_ok]; exact ⟨h, rfl⟩
  · rw [exec_aluR8Rm8, toOutcome_next, aluToReg8_ok]; exact ⟨h, rfl⟩
  · rw [exec_aluR16Rm16, toOutcome_next, aluToReg16_ok]; exact ⟨h, rfl⟩

/-- Settles O29: the accumulator is an rm side in a register, which always fits. -/
theorem aluAccumulatorCompletes : Obligations.AluAccumulatorCompletes := by
  refine fun op s => ⟨fun imm => ?_, fun imm => ?_⟩
  · rw [exec_aluAlImm8, toOutcome_next, aluToRM8_ok]; exact ⟨trivial, rfl⟩
  · rw [exec_aluAxImm16, toOutcome_next, aluToRM16_ok]; exact ⟨trivial, rfl⟩

end Sys2Proof.Proofs

namespace Sys2Proof.Proofs

open Sys2Proof.Machine Sys2Proof.Statements

/-! ## Scope: what the stack instructions complete with -/

/-- Settles O39: the checked word is inside memory, so the push writes it and the pop reads it. -/
theorem stackEngine : Obligations.StackEngine :=
  fun s v => ⟨fun hfit => (State.push_eq s v).trans (if_pos hfit), fun hfit => (State.pop_eq s).trans (if_pos hfit)⟩

/-- Settles O40: all twelve are `pushValue` of a value read before SP moves. -/
theorem pushCompletes : Obligations.PushCompletes := by
  intro s hfit
  refine ⟨fun r => ?_, fun sr => ?_⟩
  · rw [exec_pushR16, toOutcome_next, pushValue_ok]; exact ⟨hfit, rfl⟩
  · rw [exec_pushSeg, toOutcome_next, pushValue_ok]; exact ⟨hfit, rfl⟩

/-- Settles O41: all eleven are `popTo`, which writes the destination after SP has moved. -/
theorem popCompletes : Obligations.PopCompletes := by
  intro s hfit
  rw [slotAbove_zero] at hfit ⊢
  refine ⟨fun r => ?_, fun sr i hi => ?_⟩
  · rw [exec_popR16, toOutcome_next, popTo_ok]; exact ⟨hfit, rfl⟩
  · rw [exec_popSeg hi, toOutcome_next, popTo_ok]; exact ⟨hfit, rfl⟩

/-! ### PUSHA -/

/-- Two of the first 2^15 slots below the stack top share no byte: their offsets are distinct modulo 2^16 and of one
parity, and the second byte of a word does not wrap. -/
theorem slotBelow_disjoint (s : State) {j k : Nat} (hj : j < 2 ^ 15) (hk : k < 2 ^ 15) (h : j ≠ k) :
    slotBelow s j + 2 ≤ slotBelow s k ∨ slotBelow s k + 2 ≤ slotBelow s j := by
  have hsp := (s.reg16 .sp).isLt
  simp only [slotBelow, State.stackAddr, phys, BitVec.toNat_sub, BitVec.toNat_ofNat]
  omega

/-- A bulk push answers exactly when all its words are inside memory (R271, R273). -/
theorem pushAll_answers_iff {vs : List Word} {s : State} :
    (∃ t, s.pushAll vs = .ok t) ↔ ∀ k < vs.length, slotBelow s (k + 1) + 2 ≤ Config.memSize := by
  induction vs generalizing s with
  | nil => exact ⟨fun _ k hk => absurd hk k.not_lt_zero, fun _ => ⟨s, rfl⟩⟩
  | cons v vs ih =>
    rw [List.length_cons, Nat.forall_lt_succ_left]
    constructor
    · rintro ⟨t, ht⟩
      obtain ⟨u, hpush, hrest⟩ := State.pushAll_cons_ok.mp ht
      rw [State.push_eq, checked_eq_ok] at hpush
      obtain ⟨hfit, rfl⟩ := hpush
      exact ⟨hfit, fun k hk => slotBelow_after_push s _ (k + 1) ▸ ih.mp ⟨t, hrest⟩ k hk⟩
    · rintro ⟨hfit, hfits⟩
      obtain ⟨u, hpush, hslot⟩ := push_of_fits v hfit
      obtain ⟨t, hrest⟩ := ih.mpr fun k hk => (hslot (k + 1)).symm ▸ hfits k hk
      exact ⟨t, State.pushAll_cons_ok.mpr ⟨u, hpush, hrest⟩⟩

/-- Word `k` of a bulk push stands in the slot `k + 1` below the stack top: no later word overlaps it (R273). -/
theorem word_pushAll {vs : List Word} {s t : State} (h : s.pushAll vs = .ok t) (hw : Memory.wf s.mem = true)
    (hlen : vs.length < 2 ^ 15) {k : Nat} (hk : k < vs.length) : Memory.word t.mem (slotBelow s (k + 1)) = vs[k] := by
  induction vs generalizing s k with
  | nil => exact absurd hk k.not_lt_zero
  | cons v vs ih =>
    rw [List.length_cons] at hlen
    obtain ⟨u, hpush, hrest⟩ := State.pushAll_cons_ok.mp h
    rw [State.push_eq, checked_eq_ok] at hpush
    obtain ⟨hfit, rfl⟩ := hpush
    cases k with
    | zero =>
      have later (a : Nat) (ha : slotBelow s 1 ≤ a) (ha' : a < slotBelow s 1 + 2) :=
        byte_pushAll hrest (a := a) fun j _ hj => by
          rw [slotBelow_after_push]
          have := slotBelow_disjoint s (j := 1) (k := j + 1) (by omega) (by omega) (by omega)
          omega
      rw [Nat.zero_add, Memory.word, later _ (by omega) (by omega), later _ (by omega) (by omega)]
      exact word_setWord_self hw (by omega) v
    | succ k =>
      rw [← slotBelow_after_push]
      exact ih hrest (Memory.wf_setWord v hw hfit) (by omega) (Nat.lt_of_succ_lt_succ hk)

/-- PUSHA's word `k` is the register of index `k` (R31, R283). -/
theorem inOrder_getElem (g : Gpr) {k : Nat} (hk : k < g.inOrder.length) : g.inOrder[k] = g.get (regOfIndex k) := by
  have hk' : k < 8 := hk
  interval_cases k <;> rfl

/-- Settles O42: the bulk push answers, and its words stand in their slots (`word_pushAll`). -/
theorem pushaCompletes : Obligations.PushaCompletes := by
  intro s hfits
  obtain ⟨u, hu⟩ : ∃ u, s.pushAll s.gpr.inOrder = .ok u :=
    pushAll_answers_iff.mpr fun k hk => hfits (k + 1) (Nat.le_add_left 1 k) hk
  have words (hw : Memory.wf s.mem = true) (k : Nat) (hk : k < 8) :
      Memory.word u.mem (slotBelow s (k + 1)) = s.reg16 (regOfIndex k) :=
    (word_pushAll hu hw (by decide : 8 < 2 ^ 15) hk).trans (inOrder_getElem s.gpr hk)
  have others (a : Nat) (ha : ∀ k, 1 ≤ k → k ≤ 8 → a ≠ slotBelow s k ∧ a ≠ slotBelow s k + 1) :
      Memory.byte u.mem a = Memory.byte s.mem a :=
    byte_pushAll hu fun k h1 hk => by have := ha k h1 hk; omega
  refine ⟨u.advance 1, by rw [exec_pusha, hu]; rfl, ?_⟩
  rw [State.pushAll_ok hu]
  exact ⟨rfl, regsBut_setReg16 s .sp _, rfl, rfl, rfl, ⟨rfl, rfl, rfl, rfl, rfl⟩, words, others⟩

/-! ### POPA -/

/-- The general registers that POPA takes from the eight words from the stack top up (R284). -/
def stackedRegs (s : State) : Gpr where
  di := Memory.word s.mem (slotAbove s 0)
  si := Memory.word s.mem (slotAbove s 1)
  bp := Memory.word s.mem (slotAbove s 2)
  sp := Memory.word s.mem (slotAbove s 3)
  bx := Memory.word s.mem (slotAbove s 4)
  dx := Memory.word s.mem (slotAbove s 5)
  cx := Memory.word s.mem (slotAbove s 6)
  ax := Memory.word s.mem (slotAbove s 7)

theorem popAllRegs_of_fits {s : State} (hfits : ∀ k < 8, slotAbove s k + 2 ≤ Config.memSize) :
    popAllRegs s = .ok ({ s with gpr := stackedRegs s }.advance 1) := by
  have read (k : Nat) (hk : k < 8) : s.stackSlot (s.reg16 .sp) k = .ok (Memory.word s.mem (slotAbove s k)) :=
    (State.stackSlot_eq ..).trans (if_pos (hfits k hk))
  simp [popAllRegs, bind, Except.bind, pure, Except.pure, read, stackedRegs]

/-- The word in slot `k` is the register of index `7 - k`, SP in its place among them (R284, D15). -/
theorem stackedRegs_get (s : State) {k : Nat} (hk : k < 8) :
    (stackedRegs s).get (regOfIndex (7 - k)) = Memory.word s.mem (slotAbove s k) := by
  interval_cases k <;> rfl

/-- Settles O43: all eight words are read before any register changes. -/
theorem popaCompletes : Obligations.PopaCompletes := by
  intro s hfits
  have hpopa : exec .popa s = .next ({ s with gpr := stackedRegs s }.advance 1) := by
    rw [exec_popa, popAllRegs_of_fits hfits]; rfl
  exact ⟨_, hpopa, fun k hk => stackedRegs_get s hk, rfl, rfl, rfl, rfl, rfl, rfl, rfl, rfl, rfl⟩

/-! ### Pushing and popping back -/

theorem gpr_set_set (g : Gpr) (r : Reg16) (v w : Word) : (g.set r v).set r w = g.set r w := by cases r <;> rfl

theorem gpr_set_get (g : Gpr) (r : Reg16) : g.set r (g.get r) = g := by cases r <;> rfl

/-- SP moved down and back up, then `r` given back its old value, SP too (D14). -/
theorem gpr_set_sp_restored (g : Gpr) (r : Reg16) (v : Word) :
    ((g.set .sp v).set .sp (g.get .sp)).set r (g.get r) = g := by
  rw [gpr_set_set, gpr_set_get, gpr_set_get]

/-- After `n + k` pushed words, slot `n` above the new stack top is slot `k` below the old one. -/
theorem slotAbove_of_pushed {s t : State} {n k : Nat} (hsp : t.reg16 .sp = s.reg16 .sp - BitVec.ofNat 16 (2 * (n + k)))
    (hseg : t.sreg = s.sreg) : slotAbove t n = slotBelow s k := by
  have hoff : t.reg16 .sp + BitVec.ofNat 16 (2 * n) = s.reg16 .sp - BitVec.ofNat 16 (2 * k) := by
    rw [hsp, Nat.mul_add, BitVec.ofNat_add, BitVec.add_comm (BitVec.ofNat 16 (2 * n)), ← BitVec.sub_sub,
      BitVec.sub_add_cancel]
  rw [slotAbove, slotBelow, hoff, State.stackAddr, State.stackAddr, State.seg, State.seg, hseg]

/-- Settles O46: POP finds the word pushed; it writes the register after SP has moved back up. -/
theorem pushPopRestores : Obligations.PushPopRestores := by
  intro r s t hw hpush
  obtain ⟨hfit, ht⟩ := pushValue_ok.mp (toOutcome_next.mp hpush)
  rw [← slotBelow_one] at hfit ht
  have hgpr : t.gpr = s.gpr.set .sp (s.reg16 .sp - 2) := by rw [← ht]; rfl
  have hsreg : t.sreg = s.sreg := by rw [← ht]; rfl
  have hmem : t.mem = Memory.setWord s.mem (slotBelow s 1) (s.reg16 r) := by rw [← ht]; rfl
  have hsp : t.reg16 .sp = s.reg16 .sp - 2 := by rw [State.reg16, hgpr, Gpr.get_set_self]
  have hslot : slotAbove t 0 = slotBelow s 1 := slotAbove_of_pushed hsp hsreg
  have hword : Memory.word t.mem (slotAbove t 0) = s.reg16 r := by
    rw [hslot, hmem, word_setWord_self hw (by omega)]
  have hpop := (popCompletes t (hslot ▸ hfit)).1 r
  rw [hgpr, hsp, hword, BitVec.sub_add_cancel] at hpop
  subst ht
  exact ⟨_, hpop, gpr_set_sp_restored s.gpr r _, rfl, rfl, add_assoc s.ip 1 1, ⟨rfl, rfl, rfl, rfl, rfl⟩,
    memoryBut_setWord rfl⟩

/-- Every general register is one of POPA's slots. -/
theorem exists_regOfIndex (r : Reg16) : ∃ k < 8, r = regOfIndex (7 - k) :=
  ⟨7 - r.code.toNat, by omega, by cases r <;> rfl⟩

theorem outsideSame_trans {s t u : State} (h : OutsideSame s t) (h' : OutsideSame t u) : OutsideSame s u := by
  obtain ⟨table, frames, result, sink, host⟩ := h
  obtain ⟨table', frames', result', sink', host'⟩ := h'
  exact ⟨table'.trans table, frames'.trans frames, result'.trans result, sink'.trans sink, host'.trans host⟩

/-- Settles O47: PUSHA completed, so its words are inside memory; POPA's slot `k` is PUSHA's slot `8 - k`. -/
theorem pushaPopaRestores : Obligations.PushaPopaRestores := by
  intro s t hw hpusha
  obtain ⟨v, hv, -⟩ := except_map_eq_ok.mp (toOutcome_next.mp hpusha)
  have hbelow : ∀ k < 8, slotBelow s (k + 1) + 2 ≤ Config.memSize := pushAll_answers_iff.mp ⟨v, hv⟩
  obtain ⟨t', ht', hsp, -, hip, hsreg, hflags, hout, hwords, -⟩ := pushaCompletes s fun k h1 hk => by
    simpa [Nat.sub_add_cancel h1] using hbelow (k - 1) (by omega)
  obtain rfl : t' = t := Host.Outcome.next.inj (ht'.symm.trans hpusha)
  have hslot (k : Nat) (hk : k < 8) : slotAbove t' k = slotBelow s (7 - k + 1) :=
    slotAbove_of_pushed (by rw [hsp, show k + (7 - k + 1) = 8 by omega]; rfl) hsreg
  obtain ⟨u, hu, hregs, hip', hsreg', hflags', -, hout'⟩ := popaCompletes t' fun k hk => by
    rw [hslot k hk]; exact hbelow (7 - k) (by omega)
  refine ⟨u, hu, Gpr.ext_get fun r => ?_, hsreg'.trans hsreg, hflags'.trans hflags, by omega,
    outsideSame_trans hout hout'⟩
  obtain ⟨k, hk, rfl⟩ := exists_regOfIndex r
  calc u.reg16 (regOfIndex (7 - k))
    _ = Memory.word t'.mem (slotBelow s (7 - k + 1)) := by rw [hregs k hk, hslot k hk]
    _ = s.reg16 (regOfIndex (7 - k)) := hwords hw (7 - k) (by omega)

end Sys2Proof.Proofs

namespace Sys2Proof.Proofs

open Sys2Proof.Machine Sys2Proof.Statements

/-! ## Scope: INT and the return of its service -/

theorem execInt_of_registered {v : Byte} {svc : Service} {s : State} (h : IntTable.lookup s.intTable v = some svc) :
    execInt v s = .next (s.enterService svc) := by
  rw [execInt, h]

theorem execInt_of_unregistered {v : Byte} {s : State} (h : IntTable.lookup s.intTable v = none) :
    execInt v s = .fault (.unregisteredVector v s.ip) := by
  rw [execInt, h]

/-- Settles O52: by whether the vector is registered. -/
theorem intCallsTheRegisteredService : Obligations.IntCallsTheRegisteredService :=
  fun v s => ⟨fun _ hsvc => (exec_int v s).trans (execInt_of_registered hsvc),
    fun hnone => (exec_int v s).trans (execInt_of_unregistered hnone)⟩

/-- The return of a callback is one call of the host, and its INT does with the result what R330 says. -/
theorem step_callback_ret {s : State} {intIp : Int} {id : Nat} {fs : List Frame} {r : ServiceResult}
    {h : List HostCall} (hf : s.frames = .service intIp (.callback id) :: fs) (hhost : s.host = .ret r :: h) :
    step s = ({ s with host := h } : State).serviceReturn intIp r := by
  rw [step_service hf, State.serviceTurn, State.callbackTurn, State.nextCall, hhost]

/-- Settles O53: the return by its result; after a fatal the host has made the call that raised it. -/
theorem callbackReturn : Obligations.CallbackReturn := by
  refine fun s intIp id fs h hf => ⟨fun hhost => ?_, fun hhost => step_callback_ret hf hhost,
    fun e hhost => ⟨step_callback_ret hf hhost, ?_⟩⟩
  · rw [step_callback_ret hf hhost, State.serviceReturn, State.resumeAfterInt, hf, List.tail_cons]
  · have hrun : s.frames ≠ [] := hf ▸ List.cons_ne_nil _ _
    have hturn : s.hostTurn = true := hostTurn_of_hostActs (.inr ⟨intIp, id, fs, hf⟩)
    rw [endFatal_of_run hrun, State.endFatal_host_of_turn hturn, hhost, List.tail_cons]

/-- Settles O54: the INT enters the callback (`step_int`), whose Continue completes it (O53). -/
theorem intInvokesOnceAndAdvances : Obligations.IntInvokesOnceAndAdvances := by
  intro s v id h hrun hbytes hsvc hhost
  have hreturn := (callbackReturn (s.enterService (.callback id)) s.ip id s.frames h rfl).1 hhost
  rw [run_next (step_int hrun hbytes hsvc), run_next hreturn]
  rfl

end Sys2Proof.Proofs

namespace Sys2Proof.Proofs

open Sys2Proof.Machine Sys2Proof.Statements

/-! ## Scope: the acts of a service, and the dispatch of INT 21h -/

/-- Settles O15: a step of a service is one act of it (`step_service`), and `serviceTurn_keeps` is what an act keeps. -/
theorem serviceActsKeepMemoryAndFlags : Obligations.ServiceActsKeepMemoryAndFlags := by
  intro s t intIp act fs hf h
  rw [step_service hf] at h
  have hkeep := serviceTurn_keeps h
  exact ⟨hkeep.mem, hkeep.flags, hkeep.sink⟩

theorem coreRun_fault {M : Host.Core} {s : M.State} {f : M.Fault} (h : M.step s = .fault f) (k : Nat) :
    M.run (k + 1) s = .fault f := by
  rw [Host.Core.run, h]

theorem run_fault {s : State} {f : Fault} (h : step s = .fault f) (k : Nat) :
    Host.Core.run Sys2Proof.core (k + 1) s = .fault f :=
  coreRun_fault (M := Sys2Proof.core) h k

theorem step_dosEntry_exit {s : State} {intIp : Int} {fs : List Frame} (hf : s.frames = .service intIp .dosEntry :: fs)
    (hah : s.reg8 .ah = 0x4C) : step s = .next s.exitRuns := by
  rw [step_service hf, State.serviceTurn, State.dosEntry, hah]
  rfl

theorem step_dosEntry_unimplemented {s : State} {intIp : Int} {fs : List Frame}
    (hf : s.frames = .service intIp .dosEntry :: fs) (hexit : s.reg8 .ah ≠ 0x4C) (hwrite : s.reg8 .ah ≠ 0x09) :
    step s = .fault (.unimplementedService (s.reg8 .ah)) := by
  rw [step_service hf, State.serviceTurn, State.dosEntry]
  split
  next hah => exact absurd (BitVec.eq_of_toNat_eq hah) hwrite
  next hah => exact absurd (BitVec.eq_of_toNat_eq hah) hexit
  next => rfl

/-- Settles O59: the INT enters the service (`step_int`), which leaves AH and `ip` alone, and the dispatch is by AH. -/
theorem int21Terminate : Obligations.Int21Terminate := by
  intro s hrun hbytes hsvc
  have henter : step s = .next (s.enterService .dos21) := step_int hrun hbytes hsvc
  have hframes : (s.enterService .dos21).frames = .service s.ip .dosEntry :: s.frames :=
    State.enterService_frames s .dos21
  refine ⟨fun hah => ?_, fun hexit hwrite => ?_⟩
  · rw [run_next henter, run_next (step_dosEntry_exit hframes hah)]
    rfl
  · rw [run_next henter]
    exact run_fault (step_dosEntry_unimplemented hframes hexit hwrite) 0

end Sys2Proof.Proofs
